-- ==== Sys2Proof/Word.lean ====
section
/-! DEFINITION. The two word types of the hardware (00_scope.md R6). -/

namespace Sys2Proof

/-- A data byte: every register but the program counter, and every memory location (R6). -/
abbrev Byte := BitVec 8

/-- An address or a program counter (R6). -/
abbrev Word := BitVec 16

end Sys2Proof
end

