-- ==== Sys2Proof/Syntax.lean ====
section
/-! DEFINITION. The instructions: one constructor per row of spec/opcode_table.json (30_encoding.md R104, R105), with its
operand bytes. A constructor is the mnemonic and the addressing mode; where several opcodes share both (R107), the
opcode follows. Those with operand bytes stand first, then those without, each in the order of the opcodes. -/

namespace Sys2Proof

/-- The 256 instructions. `v` is an immediate byte, `b` a zero-page or pointer address, `w` and `p` 16-bit addresses
(low byte first in memory, R62), `off` a branch offset (R103). -/
inductive Instr where
  /-- $01 ORA `izx` (R233). -/
  | oraIzx (b : Byte)
  /-- $03 SLO `izx` (R271). -/
  | sloIzx (b : Byte)
  /-- $04 NOP `zp` (R300). -/
  | nopZp04 (b : Byte)
  /-- $05 ORA `zp` (R233). -/
  | oraZp (b : Byte)
  /-- $06 ASL `zp` (R250). -/
  | aslZp (b : Byte)
  /-- $07 SLO `zp` (R271). -/
  | sloZp (b : Byte)
  /-- $09 ORA `imm` (R233). -/
  | oraImm (v : Byte)
  /-- $0B ANC `imm` (R279). -/
  | ancImm0B (v : Byte)
  /-- $0C NOP `abs` (R300). -/
  | nopAbs0C (w : Word)
  /-- $0D ORA `abs` (R233). -/
  | oraAbs (w : Word)
  /-- $0E ASL `abs` (R250). -/
  | aslAbs (w : Word)
  /-- $0F SLO `abs` (R271). -/
  | sloAbs (w : Word)
  /-- $10 BPL `rel` (R181). -/
  | bpl (off : Byte)
  /-- $11 ORA `izy` (R233). -/
  | oraIzy (b : Byte)
  /-- $13 SLO `izy` (R271). -/
  | sloIzy (b : Byte)
  /-- $14 NOP `zpx` (R300). -/
  | nopZpx14 (b : Byte)
  /-- $15 ORA `zpx` (R233). -/
  | oraZpx (b : Byte)
  /-- $16 ASL `zpx` (R250). -/
  | aslZpx (b : Byte)
  /-- $17 SLO `zpx` (R271). -/
  | sloZpx (b : Byte)
  /-- $19 ORA `aby` (R233). -/
  | oraAby (w : Word)
  /-- $1B SLO `aby` (R271). -/
  | sloAby (w : Word)
  /-- $1C NOP `abx` (R300). -/
  | nopAbx1C (w : Word)
  /-- $1D ORA `abx` (R233). -/
  | oraAbx (w : Word)
  /-- $1E ASL `abx` (R250). -/
  | aslAbx (w : Word)
  /-- $1F SLO `abx` (R271). -/
  | sloAbx (w : Word)
  /-- $20 JSR `abs` (R177). -/
  | jsr (w : Word)
  /-- $21 AND `izx` (R234). -/
  | andIzx (b : Byte)
  /-- $23 RLA `izx` (R272). -/
  | rlaIzx (b : Byte)
  /-- $24 BIT `zp` (R245). -/
  | bitZp (b : Byte)
  /-- $25 AND `zp` (R234). -/
  | andZp (b : Byte)
  /-- $26 ROL `zp` (R252). -/
  | rolZp (b : Byte)
  /-- $27 RLA `zp` (R272). -/
  | rlaZp (b : Byte)
  /-- $29 AND `imm` (R234). -/
  | andImm (v : Byte)
  /-- $2B ANC `imm` (R279). -/
  | ancImm2B (v : Byte)
  /-- $2C BIT `abs` (R245). -/
  | bitAbs (w : Word)
  /-- $2D AND `abs` (R234). -/
  | andAbs (w : Word)
  /-- $2E ROL `abs` (R252). -/
  | rolAbs (w : Word)
  /-- $2F RLA `abs` (R272). -/
  | rlaAbs (w : Word)
  /-- $30 BMI `rel` (R182). -/
  | bmi (off : Byte)
  /-- $31 AND `izy` (R234). -/
  | andIzy (b : Byte)
  /-- $33 RLA `izy` (R272). -/
  | rlaIzy (b : Byte)
  /-- $34 NOP `zpx` (R300). -/
  | nopZpx34 (b : Byte)
  /-- $35 AND `zpx` (R234). -/
  | andZpx (b : Byte)
  /-- $36 ROL `zpx` (R252). -/
  | rolZpx (b : Byte)
  /-- $37 RLA `zpx` (R272). -/
  | rlaZpx (b : Byte)
  /-- $39 AND `aby` (R234). -/
  | andAby (w : Word)
  /-- $3B RLA `aby` (R272). -/
  | rlaAby (w : Word)
  /-- $3C NOP `abx` (R300). -/
  | nopAbx3C (w : Word)
  /-- $3D AND `abx` (R234). -/
  | andAbx (w : Word)
  /-- $3E ROL `abx` (R252). -/
  | rolAbx (w : Word)
  /-- $3F RLA `abx` (R272). -/
  | rlaAbx (w : Word)
  /-- $41 EOR `izx` (R235). -/
  | eorIzx (b : Byte)
  /-- $43 SRE `izx` (R273). -/
  | sreIzx (b : Byte)
  /-- $44 NOP `zp` (R300). -/
  | nopZp44 (b : Byte)
  /-- $45 EOR `zp` (R235). -/
  | eorZp (b : Byte)
  /-- $46 LSR `zp` (R251). -/
  | lsrZp (b : Byte)
  /-- $47 SRE `zp` (R273). -/
  | sreZp (b : Byte)
  /-- $49 EOR `imm` (R235). -/
  | eorImm (v : Byte)
  /-- $4B ASR `imm` (R280). -/
  | asrImm (v : Byte)
  /-- $4C JMP `abs` (R178). -/
  | jmpAbs (w : Word)
  /-- $4D EOR `abs` (R235). -/
  | eorAbs (w : Word)
  /-- $4E LSR `abs` (R251). -/
  | lsrAbs (w : Word)
  /-- $4F SRE `abs` (R273). -/
  | sreAbs (w : Word)
  /-- $50 BVC `rel` (R183). -/
  | bvc (off : Byte)
  /-- $51 EOR `izy` (R235). -/
  | eorIzy (b : Byte)
  /-- $53 SRE `izy` (R273). -/
  | sreIzy (b : Byte)
  /-- $54 NOP `zpx` (R300). -/
  | nopZpx54 (b : Byte)
  /-- $55 EOR `zpx` (R235). -/
  | eorZpx (b : Byte)
  /-- $56 LSR `zpx` (R251). -/
  | lsrZpx (b : Byte)
  /-- $57 SRE `zpx` (R273). -/
  | sreZpx (b : Byte)
  /-- $59 EOR `aby` (R235). -/
  | eorAby (w : Word)
  /-- $5B SRE `aby` (R273). -/
  | sreAby (w : Word)
  /-- $5C NOP `abx` (R300). -/
  | nopAbx5C (w : Word)
  /-- $5D EOR `abx` (R235). -/
  | eorAbx (w : Word)
  /-- $5E LSR `abx` (R251). -/
  | lsrAbx (w : Word)
  /-- $5F SRE `abx` (R273). -/
  | sreAbx (w : Word)
  /-- $61 ADC `izx` (R236). -/
  | adcIzx (b : Byte)
  /-- $63 RRA `izx` (R274). -/
  | rraIzx (b : Byte)
  /-- $64 NOP `zp` (R300). -/
  | nopZp64 (b : Byte)
  /-- $65 ADC `zp` (R236). -/
  | adcZp (b : Byte)
  /-- $66 ROR `zp` (R253). -/
  | rorZp (b : Byte)
  /-- $67 RRA `zp` (R274). -/
  | rraZp (b : Byte)
  /-- $69 ADC `imm` (R236). -/
  | adcImm (v : Byte)
  /-- $6B ARR `imm` (R281). -/
  | arrImm (v : Byte)
  /-- $6C JMP `ind` (R179). -/
  | jmpInd (p : Word)
  /-- $6D ADC `abs` (R236). -/
  | adcAbs (w : Word)
  /-- $6E ROR `abs` (R253). -/
  | rorAbs (w : Word)
  /-- $6F RRA `abs` (R274). -/
  | rraAbs (w : Word)
  /-- $70 BVS `rel` (R184). -/
  | bvs (off : Byte)
  /-- $71 ADC `izy` (R236). -/
  | adcIzy (b : Byte)
  /-- $73 RRA `izy` (R274). -/
  | rraIzy (b : Byte)
  /-- $74 NOP `zpx` (R300). -/
  | nopZpx74 (b : Byte)
  /-- $75 ADC `zpx` (R236). -/
  | adcZpx (b : Byte)
  /-- $76 ROR `zpx` (R253). -/
  | rorZpx (b : Byte)
  /-- $77 RRA `zpx` (R274). -/
  | rraZpx (b : Byte)
  /-- $79 ADC `aby` (R236). -/
  | adcAby (w : Word)
  /-- $7B RRA `aby` (R274). -/
  | rraAby (w : Word)
  /-- $7C NOP `abx` (R300). -/
  | nopAbx7C (w : Word)
  /-- $7D ADC `abx` (R236). -/
  | adcAbx (w : Word)
  /-- $7E ROR `abx` (R253). -/
  | rorAbx (w : Word)
  /-- $7F RRA `abx` (R274). -/
  | rraAbx (w : Word)
  /-- $80 NOP `imm` (R300). -/
  | nopImm80 (v : Byte)
  /-- $81 STA `izx` (R256). -/
  | staIzx (b : Byte)
  /-- $82 NOP `imm` (R301). -/
  | nopImm82 (v : Byte)
  /-- $83 SAX `izx` (R275). -/
  | saxIzx (b : Byte)
  /-- $84 STY `zp` (R258). -/
  | styZp (b : Byte)
  /-- $85 STA `zp` (R256). -/
  | staZp (b : Byte)
  /-- $86 STX `zp` (R257). -/
  | stxZp (b : Byte)
  /-- $87 SAX `zp` (R275). -/
  | saxZp (b : Byte)
  /-- $89 NOP `imm` (R300). -/
  | nopImm89 (v : Byte)
  /-- $8B ANE `imm` (R291). -/
  | aneImm (v : Byte)
  /-- $8C STY `abs` (R258). -/
  | styAbs (w : Word)
  /-- $8D STA `abs` (R256). -/
  | staAbs (w : Word)
  /-- $8E STX `abs` (R257). -/
  | stxAbs (w : Word)
  /-- $8F SAX `abs` (R275). -/
  | saxAbs (w : Word)
  /-- $90 BCC `rel` (R185). -/
  | bcc (off : Byte)
  /-- $91 STA `izy` (R256). -/
  | staIzy (b : Byte)
  /-- $93 SHA `izy` (R295). -/
  | shaIzy (b : Byte)
  /-- $94 STY `zpx` (R258). -/
  | styZpx (b : Byte)
  /-- $95 STA `zpx` (R256). -/
  | staZpx (b : Byte)
  /-- $96 STX `zpy` (R257). -/
  | stxZpy (b : Byte)
  /-- $97 SAX `zpy` (R275). -/
  | saxZpy (b : Byte)
  /-- $99 STA `aby` (R256). -/
  | staAby (w : Word)
  /-- $9B SHS `aby` (R298). -/
  | shsAby (w : Word)
  /-- $9C SHY `abx` (R297). -/
  | shyAbx (w : Word)
  /-- $9D STA `abx` (R256). -/
  | staAbx (w : Word)
  /-- $9E SHX `aby` (R296). -/
  | shxAby (w : Word)
  /-- $9F SHA `aby` (R295). -/
  | shaAby (w : Word)
  /-- $A0 LDY `imm` (R232). -/
  | ldyImm (v : Byte)
  /-- $A1 LDA `izx` (R230). -/
  | ldaIzx (b : Byte)
  /-- $A2 LDX `imm` (R231). -/
  | ldxImm (v : Byte)
  /-- $A3 LAX `izx` (R276). -/
  | laxIzx (b : Byte)
  /-- $A4 LDY `zp` (R232). -/
  | ldyZp (b : Byte)
  /-- $A5 LDA `zp` (R230). -/
  | ldaZp (b : Byte)
  /-- $A6 LDX `zp` (R231). -/
  | ldxZp (b : Byte)
  /-- $A7 LAX `zp` (R276). -/
  | laxZp (b : Byte)
  /-- $A9 LDA `imm` (R230). -/
  | ldaImm (v : Byte)
  /-- $AB LXA `imm` (R292). -/
  | lxaImm (v : Byte)
  /-- $AC LDY `abs` (R232). -/
  | ldyAbs (w : Word)
  /-- $AD LDA `abs` (R230). -/
  | ldaAbs (w : Word)
  /-- $AE LDX `abs` (R231). -/
  | ldxAbs (w : Word)
  /-- $AF LAX `abs` (R276). -/
  | laxAbs (w : Word)
  /-- $B0 BCS `rel` (R186). -/
  | bcs (off : Byte)
  /-- $B1 LDA `izy` (R230). -/
  | ldaIzy (b : Byte)
  /-- $B3 LAX `izy` (R276). -/
  | laxIzy (b : Byte)
  /-- $B4 LDY `zpx` (R232). -/
  | ldyZpx (b : Byte)
  /-- $B5 LDA `zpx` (R230). -/
  | ldaZpx (b : Byte)
  /-- $B6 LDX `zpy` (R231). -/
  | ldxZpy (b : Byte)
  /-- $B7 LAX `zpy` (R276). -/
  | laxZpy (b : Byte)
  /-- $B9 LDA `aby` (R230). -/
  | ldaAby (w : Word)
  /-- $BB LAS `aby` (R299). -/
  | lasAby (w : Word)
  /-- $BC LDY `abx` (R232). -/
  | ldyAbx (w : Word)
  /-- $BD LDA `abx` (R230). -/
  | ldaAbx (w : Word)
  /-- $BE LDX `aby` (R231). -/
  | ldxAby (w : Word)
  /-- $BF LAX `aby` (R276). -/
  | laxAby (w : Word)
  /-- $C0 CPY `imm` (R244). -/
  | cpyImm (v : Byte)
  /-- $C1 CMP `izx` (R242). -/
  | cmpIzx (b : Byte)
  /-- $C2 NOP `imm` (R301). -/
  | nopImmC2 (v : Byte)
  /-- $C3 DCP `izx` (R277). -/
  | dcpIzx (b : Byte)
  /-- $C4 CPY `zp` (R244). -/
  | cpyZp (b : Byte)
  /-- $C5 CMP `zp` (R242). -/
  | cmpZp (b : Byte)
  /-- $C6 DEC `zp` (R255). -/
  | decZp (b : Byte)
  /-- $C7 DCP `zp` (R277). -/
  | dcpZp (b : Byte)
  /-- $C9 CMP `imm` (R242). -/
  | cmpImm (v : Byte)
  /-- $CB SBX `imm` (R293). -/
  | sbxImm (v : Byte)
  /-- $CC CPY `abs` (R244). -/
  | cpyAbs (w : Word)
  /-- $CD CMP `abs` (R242). -/
  | cmpAbs (w : Word)
  /-- $CE DEC `abs` (R255). -/
  | decAbs (w : Word)
  /-- $CF DCP `abs` (R277). -/
  | dcpAbs (w : Word)
  /-- $D0 BNE `rel` (R187). -/
  | bne (off : Byte)
  /-- $D1 CMP `izy` (R242). -/
  | cmpIzy (b : Byte)
  /-- $D3 DCP `izy` (R277). -/
  | dcpIzy (b : Byte)
  /-- $D4 NOP `zpx` (R300). -/
  | nopZpxD4 (b : Byte)
  /-- $D5 CMP `zpx` (R242). -/
  | cmpZpx (b : Byte)
  /-- $D6 DEC `zpx` (R255). -/
  | decZpx (b : Byte)
  /-- $D7 DCP `zpx` (R277). -/
  | dcpZpx (b : Byte)
  /-- $D9 CMP `aby` (R242). -/
  | cmpAby (w : Word)
  /-- $DB DCP `aby` (R277). -/
  | dcpAby (w : Word)
  /-- $DC NOP `abx` (R300). -/
  | nopAbxDC (w : Word)
  /-- $DD CMP `abx` (R242). -/
  | cmpAbx (w : Word)
  /-- $DE DEC `abx` (R255). -/
  | decAbx (w : Word)
  /-- $DF DCP `abx` (R277). -/
  | dcpAbx (w : Word)
  /-- $E0 CPX `imm` (R243). -/
  | cpxImm (v : Byte)
  /-- $E1 SBC `izx` (R237). -/
  | sbcIzx (b : Byte)
  /-- $E2 NOP `imm` (R301). -/
  | nopImmE2 (v : Byte)
  /-- $E3 ISB `izx` (R278). -/
  | isbIzx (b : Byte)
  /-- $E4 CPX `zp` (R243). -/
  | cpxZp (b : Byte)
  /-- $E5 SBC `zp` (R237). -/
  | sbcZp (b : Byte)
  /-- $E6 INC `zp` (R254). -/
  | incZp (b : Byte)
  /-- $E7 ISB `zp` (R278). -/
  | isbZp (b : Byte)
  /-- $E9 SBC `imm` (R237). -/
  | sbcImm (v : Byte)
  /-- $EB SBC `imm` (R294). -/
  | sbcImmEB (v : Byte)
  /-- $EC CPX `abs` (R243). -/
  | cpxAbs (w : Word)
  /-- $ED SBC `abs` (R237). -/
  | sbcAbs (w : Word)
  /-- $EE INC `abs` (R254). -/
  | incAbs (w : Word)
  /-- $EF ISB `abs` (R278). -/
  | isbAbs (w : Word)
  /-- $F0 BEQ `rel` (R188). -/
  | beq (off : Byte)
  /-- $F1 SBC `izy` (R237). -/
  | sbcIzy (b : Byte)
  /-- $F3 ISB `izy` (R278). -/
  | isbIzy (b : Byte)
  /-- $F4 NOP `zpx` (R300). -/
  | nopZpxF4 (b : Byte)
  /-- $F5 SBC `zpx` (R237). -/
  | sbcZpx (b : Byte)
  /-- $F6 INC `zpx` (R254). -/
  | incZpx (b : Byte)
  /-- $F7 ISB `zpx` (R278). -/
  | isbZpx (b : Byte)
  /-- $F9 SBC `aby` (R237). -/
  | sbcAby (w : Word)
  /-- $FB ISB `aby` (R278). -/
  | isbAby (w : Word)
  /-- $FC NOP `abx` (R300). -/
  | nopAbxFC (w : Word)
  /-- $FD SBC `abx` (R237). -/
  | sbcAbx (w : Word)
  /-- $FE INC `abx` (R254). -/
  | incAbx (w : Word)
  /-- $FF ISB `abx` (R278). -/
  | isbAbx (w : Word)
  /-- $00 BRK `imp` (R170). -/
  | brk
  /-- $02 JAM `imp` (R302). -/
  | jam02
  /-- $08 PHP `imp` (R174). -/
  | php
  /-- $0A ASL `acc` (R250). -/
  | aslAcc
  /-- $12 JAM `imp` (R302). -/
  | jam12
  /-- $18 CLC `imp` (R210). -/
  | clc
  /-- $1A NOP `imp` (R300). -/
  | nopImp1A
  /-- $22 JAM `imp` (R302). -/
  | jam22
  /-- $28 PLP `imp` (R176). -/
  | plp
  /-- $2A ROL `acc` (R252). -/
  | rolAcc
  /-- $32 JAM `imp` (R302). -/
  | jam32
  /-- $38 SEC `imp` (R211). -/
  | sec
  /-- $3A NOP `imp` (R300). -/
  | nopImp3A
  /-- $40 RTI `imp` (R171). -/
  | rti
  /-- $42 JAM `imp` (R302). -/
  | jam42
  /-- $48 PHA `imp` (R173). -/
  | pha
  /-- $4A LSR `acc` (R251). -/
  | lsrAcc
  /-- $52 JAM `imp` (R302). -/
  | jam52
  /-- $58 CLI `imp` (R212). -/
  | cli
  /-- $5A NOP `imp` (R300). -/
  | nopImp5A
  /-- $60 RTS `imp` (R172). -/
  | rts
  /-- $62 JAM `imp` (R302). -/
  | jam62
  /-- $68 PLA `imp` (R175). -/
  | pla
  /-- $6A ROR `acc` (R253). -/
  | rorAcc
  /-- $72 JAM `imp` (R302). -/
  | jam72
  /-- $78 SEI `imp` (R213). -/
  | sei
  /-- $7A NOP `imp` (R300). -/
  | nopImp7A
  /-- $88 DEY `imp` (R209). -/
  | dey
  /-- $8A TXA `imp` (R202). -/
  | txa
  /-- $92 JAM `imp` (R302). -/
  | jam92
  /-- $98 TYA `imp` (R203). -/
  | tya
  /-- $9A TXS `imp` (R205). -/
  | txs
  /-- $A8 TAY `imp` (R201). -/
  | tay
  /-- $AA TAX `imp` (R200). -/
  | tax
  /-- $B2 JAM `imp` (R302). -/
  | jamB2
  /-- $B8 CLV `imp` (R214). -/
  | clv
  /-- $BA TSX `imp` (R204). -/
  | tsx
  /-- $C8 INY `imp` (R207). -/
  | iny
  /-- $CA DEX `imp` (R208). -/
  | dex
  /-- $D2 JAM `imp` (R302). -/
  | jamD2
  /-- $D8 CLD `imp` (R215). -/
  | cld
  /-- $DA NOP `imp` (R300). -/
  | nopImpDA
  /-- $E8 INX `imp` (R206). -/
  | inx
  /-- $EA NOP `imp` (R217). -/
  | nop
  /-- $F2 JAM `imp` (R302). -/
  | jamF2
  /-- $F8 SED `imp` (R216). -/
  | sed
  /-- $FA NOP `imp` (R300). -/
  | nopImpFA
deriving DecidableEq, Repr

end Sys2Proof
end

