-- ==== Sys2Proof/Decode.lean ====
section
/-! DEFINITION. Bytes to instructions and back (30_encoding.md): the opcode matrix of R104 row by row, a decoder that is
total on any bytes, and the encoder. The byte-order and extension helpers of 00_scope.md section 5.1 stand here too. -/

namespace Sys2Proof

/-- `hi:lo` (00_scope.md section 5.1). -/
def wordOf (hi lo : Byte) : Word := hi ++ lo

/-- The low byte of a 16-bit value (section 5.1). -/
def lo8 (w : Word) : Byte := w.extractLsb' 0 8

/-- The high byte of a 16-bit value (section 5.1). -/
def hi8 (w : Word) : Byte := w.extractLsb' 8 8

/-- A byte as a 16-bit number (section 5.1). -/
def zext16 (b : Byte) : Word := b.zeroExtend 16

/-- A byte as a two's-complement number, modulo 65536 (section 5.1). -/
def sext16 (b : Byte) : Word := b.signExtend 16

/-- A 16-bit operand as it stands in memory: low byte first (R62, R103). -/
def wordBytes (w : Word) : List Byte := [lo8 w, hi8 w]

/-- Why bytes do not decode. -/
inductive DecodeError where
  /-- No opcode byte, or fewer operand bytes than the opcode asks for (R102). -/
  | truncated
  /-- No entry of the matrix; every opcode has one (R106), so never. -/
  | noEntry
deriving DecidableEq, Repr

/-- An entry of the matrix: the instruction an opcode begins, and how many operand bytes it takes (R102, R103). -/
inductive Form where
  | bare (i : Instr)
  | byte (f : Byte → Instr)
  | word (f : Word → Instr)

/-- Row +00 of the matrix (R104, R105): columns 00, 20, 40, 60, 80, a0, c0, e0. -/
def row00 : List Form :=
  [.bare .brk, .word .jsr, .bare .rti, .bare .rts, .byte .nopImm80, .byte .ldyImm, .byte .cpyImm, .byte .cpxImm]

/-- Row +01 of the matrix (R104, R105): columns 00, 20, 40, 60, 80, a0, c0, e0. -/
def row01 : List Form :=
  [.byte .oraIzx, .byte .andIzx, .byte .eorIzx, .byte .adcIzx, .byte .staIzx, .byte .ldaIzx, .byte .cmpIzx,
   .byte .sbcIzx]

/-- Row +02 of the matrix (R104, R105): columns 00, 20, 40, 60, 80, a0, c0, e0. -/
def row02 : List Form :=
  [.bare .jam02, .bare .jam22, .bare .jam42, .bare .jam62, .byte .nopImm82, .byte .ldxImm, .byte .nopImmC2,
   .byte .nopImmE2]

/-- Row +03 of the matrix (R104, R105): columns 00, 20, 40, 60, 80, a0, c0, e0. -/
def row03 : List Form :=
  [.byte .sloIzx, .byte .rlaIzx, .byte .sreIzx, .byte .rraIzx, .byte .saxIzx, .byte .laxIzx, .byte .dcpIzx,
   .byte .isbIzx]

/-- Row +04 of the matrix (R104, R105): columns 00, 20, 40, 60, 80, a0, c0, e0. -/
def row04 : List Form :=
  [.byte .nopZp04, .byte .bitZp, .byte .nopZp44, .byte .nopZp64, .byte .styZp, .byte .ldyZp, .byte .cpyZp,
   .byte .cpxZp]

/-- Row +05 of the matrix (R104, R105): columns 00, 20, 40, 60, 80, a0, c0, e0. -/
def row05 : List Form :=
  [.byte .oraZp, .byte .andZp, .byte .eorZp, .byte .adcZp, .byte .staZp, .byte .ldaZp, .byte .cmpZp, .byte .sbcZp]

/-- Row +06 of the matrix (R104, R105): columns 00, 20, 40, 60, 80, a0, c0, e0. -/
def row06 : List Form :=
  [.byte .aslZp, .byte .rolZp, .byte .lsrZp, .byte .rorZp, .byte .stxZp, .byte .ldxZp, .byte .decZp, .byte .incZp]

/-- Row +07 of the matrix (R104, R105): columns 00, 20, 40, 60, 80, a0, c0, e0. -/
def row07 : List Form :=
  [.byte .sloZp, .byte .rlaZp, .byte .sreZp, .byte .rraZp, .byte .saxZp, .byte .laxZp, .byte .dcpZp, .byte .isbZp]

/-- Row +08 of the matrix (R104, R105): columns 00, 20, 40, 60, 80, a0, c0, e0. -/
def row08 : List Form :=
  [.bare .php, .bare .plp, .bare .pha, .bare .pla, .bare .dey, .bare .tay, .bare .iny, .bare .inx]

/-- Row +09 of the matrix (R104, R105): columns 00, 20, 40, 60, 80, a0, c0, e0. -/
def row09 : List Form :=
  [.byte .oraImm, .byte .andImm, .byte .eorImm, .byte .adcImm, .byte .nopImm89, .byte .ldaImm, .byte .cmpImm,
   .byte .sbcImm]

/-- Row +0a of the matrix (R104, R105): columns 00, 20, 40, 60, 80, a0, c0, e0. -/
def row0A : List Form :=
  [.bare .aslAcc, .bare .rolAcc, .bare .lsrAcc, .bare .rorAcc, .bare .txa, .bare .tax, .bare .dex, .bare .nop]

/-- Row +0b of the matrix (R104, R105): columns 00, 20, 40, 60, 80, a0, c0, e0. -/
def row0B : List Form :=
  [.byte .ancImm0B, .byte .ancImm2B, .byte .asrImm, .byte .arrImm, .byte .aneImm, .byte .lxaImm, .byte .sbxImm,
   .byte .sbcImmEB]

/-- Row +0c of the matrix (R104, R105): columns 00, 20, 40, 60, 80, a0, c0, e0. -/
def row0C : List Form :=
  [.word .nopAbs0C, .word .bitAbs, .word .jmpAbs, .word .jmpInd, .word .styAbs, .word .ldyAbs, .word .cpyAbs,
   .word .cpxAbs]

/-- Row +0d of the matrix (R104, R105): columns 00, 20, 40, 60, 80, a0, c0, e0. -/
def row0D : List Form :=
  [.word .oraAbs, .word .andAbs, .word .eorAbs, .word .adcAbs, .word .staAbs, .word .ldaAbs, .word .cmpAbs,
   .word .sbcAbs]

/-- Row +0e of the matrix (R104, R105): columns 00, 20, 40, 60, 80, a0, c0, e0. -/
def row0E : List Form :=
  [.word .aslAbs, .word .rolAbs, .word .lsrAbs, .word .rorAbs, .word .stxAbs, .word .ldxAbs, .word .decAbs,
   .word .incAbs]

/-- Row +0f of the matrix (R104, R105): columns 00, 20, 40, 60, 80, a0, c0, e0. -/
def row0F : List Form :=
  [.word .sloAbs, .word .rlaAbs, .word .sreAbs, .word .rraAbs, .word .saxAbs, .word .laxAbs, .word .dcpAbs,
   .word .isbAbs]

/-- Row +10 of the matrix (R104, R105): columns 00, 20, 40, 60, 80, a0, c0, e0. -/
def row10 : List Form :=
  [.byte .bpl, .byte .bmi, .byte .bvc, .byte .bvs, .byte .bcc, .byte .bcs, .byte .bne, .byte .beq]

/-- Row +11 of the matrix (R104, R105): columns 00, 20, 40, 60, 80, a0, c0, e0. -/
def row11 : List Form :=
  [.byte .oraIzy, .byte .andIzy, .byte .eorIzy, .byte .adcIzy, .byte .staIzy, .byte .ldaIzy, .byte .cmpIzy,
   .byte .sbcIzy]

/-- Row +12 of the matrix (R104, R105): columns 00, 20, 40, 60, 80, a0, c0, e0. -/
def row12 : List Form :=
  [.bare .jam12, .bare .jam32, .bare .jam52, .bare .jam72, .bare .jam92, .bare .jamB2, .bare .jamD2, .bare .jamF2]

/-- Row +13 of the matrix (R104, R105): columns 00, 20, 40, 60, 80, a0, c0, e0. -/
def row13 : List Form :=
  [.byte .sloIzy, .byte .rlaIzy, .byte .sreIzy, .byte .rraIzy, .byte .shaIzy, .byte .laxIzy, .byte .dcpIzy,
   .byte .isbIzy]

/-- Row +14 of the matrix (R104, R105): columns 00, 20, 40, 60, 80, a0, c0, e0. -/
def row14 : List Form :=
  [.byte .nopZpx14, .byte .nopZpx34, .byte .nopZpx54, .byte .nopZpx74, .byte .styZpx, .byte .ldyZpx, .byte .nopZpxD4,
   .byte .nopZpxF4]

/-- Row +15 of the matrix (R104, R105): columns 00, 20, 40, 60, 80, a0, c0, e0. -/
def row15 : List Form :=
  [.byte .oraZpx, .byte .andZpx, .byte .eorZpx, .byte .adcZpx, .byte .staZpx, .byte .ldaZpx, .byte .cmpZpx,
   .byte .sbcZpx]

/-- Row +16 of the matrix (R104, R105): columns 00, 20, 40, 60, 80, a0, c0, e0. -/
def row16 : List Form :=
  [.byte .aslZpx, .byte .rolZpx, .byte .lsrZpx, .byte .rorZpx, .byte .stxZpy, .byte .ldxZpy, .byte .decZpx,
   .byte .incZpx]

/-- Row +17 of the matrix (R104, R105): columns 00, 20, 40, 60, 80, a0, c0, e0. -/
def row17 : List Form :=
  [.byte .sloZpx, .byte .rlaZpx, .byte .sreZpx, .byte .rraZpx, .byte .saxZpy, .byte .laxZpy, .byte .dcpZpx,
   .byte .isbZpx]

/-- Row +18 of the matrix (R104, R105): columns 00, 20, 40, 60, 80, a0, c0, e0. -/
def row18 : List Form :=
  [.bare .clc, .bare .sec, .bare .cli, .bare .sei, .bare .tya, .bare .clv, .bare .cld, .bare .sed]

/-- Row +19 of the matrix (R104, R105): columns 00, 20, 40, 60, 80, a0, c0, e0. -/
def row19 : List Form :=
  [.word .oraAby, .word .andAby, .word .eorAby, .word .adcAby, .word .staAby, .word .ldaAby, .word .cmpAby,
   .word .sbcAby]

/-- Row +1a of the matrix (R104, R105): columns 00, 20, 40, 60, 80, a0, c0, e0. -/
def row1A : List Form :=
  [.bare .nopImp1A, .bare .nopImp3A, .bare .nopImp5A, .bare .nopImp7A, .bare .txs, .bare .tsx, .bare .nopImpDA,
   .bare .nopImpFA]

/-- Row +1b of the matrix (R104, R105): columns 00, 20, 40, 60, 80, a0, c0, e0. -/
def row1B : List Form :=
  [.word .sloAby, .word .rlaAby, .word .sreAby, .word .rraAby, .word .shsAby, .word .lasAby, .word .dcpAby,
   .word .isbAby]

/-- Row +1c of the matrix (R104, R105): columns 00, 20, 40, 60, 80, a0, c0, e0. -/
def row1C : List Form :=
  [.word .nopAbx1C, .word .nopAbx3C, .word .nopAbx5C, .word .nopAbx7C, .word .shyAbx, .word .ldyAbx, .word .nopAbxDC,
   .word .nopAbxFC]

/-- Row +1d of the matrix (R104, R105): columns 00, 20, 40, 60, 80, a0, c0, e0. -/
def row1D : List Form :=
  [.word .oraAbx, .word .andAbx, .word .eorAbx, .word .adcAbx, .word .staAbx, .word .ldaAbx, .word .cmpAbx,
   .word .sbcAbx]

/-- Row +1e of the matrix (R104, R105): columns 00, 20, 40, 60, 80, a0, c0, e0. -/
def row1E : List Form :=
  [.word .aslAbx, .word .rolAbx, .word .lsrAbx, .word .rorAbx, .word .shxAby, .word .ldxAby, .word .decAbx,
   .word .incAbx]

/-- Row +1f of the matrix (R104, R105): columns 00, 20, 40, 60, 80, a0, c0, e0. -/
def row1F : List Form :=
  [.word .sloAbx, .word .rlaAbx, .word .sreAbx, .word .rraAbx, .word .shaAby, .word .laxAby, .word .dcpAbx,
   .word .isbAbx]

/-- The opcode matrix (R104): rows +00 to +1f. -/
def matrix : List (List Form) :=
  [row00, row01, row02, row03, row04, row05, row06, row07,
   row08, row09, row0A, row0B, row0C, row0D, row0E, row0F,
   row10, row11, row12, row13, row14, row15, row16, row17,
   row18, row19, row1A, row1B, row1C, row1D, row1E, row1F]

/-- The entry of an opcode: `col = opcode[7:5]`, `row = opcode[4:0]` (R101). -/
def formOf (op : Byte) : Option Form := (matrix[op.toNat % 32]?).bind fun r => r[op.toNat / 32]?

/-- The instruction at the head of a list of bytes, and the bytes after it (R100, R108). -/
def decode : List Byte → Except DecodeError (Instr × List Byte)
  | [] => .error .truncated
  | op :: rest =>
    match formOf op with
    | none => .error .noEntry
    | some (.bare i) => .ok (i, rest)
    | some (.byte f) =>
      match rest with
      | b :: more => .ok (f b, more)
      | [] => .error .truncated
    | some (.word f) =>
      match rest with
      | lo :: hi :: more => .ok (f (wordOf hi lo), more)
      | [_] => .error .truncated
      | [] => .error .truncated

/-- The bytes of an instruction: its opcode and its operand bytes, in ascending addresses (R100, R103, R104). -/
def encode (i : Instr) : List Byte :=
  match i with
  | .brk => [0x00]
  | .oraIzx b => [0x01, b]
  | .jam02 => [0x02]
  | .sloIzx b => [0x03, b]
  | .nopZp04 b => [0x04, b]
  | .oraZp b => [0x05, b]
  | .aslZp b => [0x06, b]
  | .sloZp b => [0x07, b]
  | .php => [0x08]
  | .oraImm v => [0x09, v]
  | .aslAcc => [0x0A]
  | .ancImm0B v => [0x0B, v]
  | .nopAbs0C w => 0x0C :: wordBytes w
  | .oraAbs w => 0x0D :: wordBytes w
  | .aslAbs w => 0x0E :: wordBytes w
  | .sloAbs w => 0x0F :: wordBytes w
  | .bpl off => [0x10, off]
  | .oraIzy b => [0x11, b]
  | .jam12 => [0x12]
  | .sloIzy b => [0x13, b]
  | .nopZpx14 b => [0x14, b]
  | .oraZpx b => [0x15, b]
  | .aslZpx b => [0x16, b]
  | .sloZpx b => [0x17, b]
  | .clc => [0x18]
  | .oraAby w => 0x19 :: wordBytes w
  | .nopImp1A => [0x1A]
  | .sloAby w => 0x1B :: wordBytes w
  | .nopAbx1C w => 0x1C :: wordBytes w
  | .oraAbx w => 0x1D :: wordBytes w
  | .aslAbx w => 0x1E :: wordBytes w
  | .sloAbx w => 0x1F :: wordBytes w
  | .jsr w => 0x20 :: wordBytes w
  | .andIzx b => [0x21, b]
  | .jam22 => [0x22]
  | .rlaIzx b => [0x23, b]
  | .bitZp b => [0x24, b]
  | .andZp b => [0x25, b]
  | .rolZp b => [0x26, b]
  | .rlaZp b => [0x27, b]
  | .plp => [0x28]
  | .andImm v => [0x29, v]
  | .rolAcc => [0x2A]
  | .ancImm2B v => [0x2B, v]
  | .bitAbs w => 0x2C :: wordBytes w
  | .andAbs w => 0x2D :: wordBytes w
  | .rolAbs w => 0x2E :: wordBytes w
  | .rlaAbs w => 0x2F :: wordBytes w
  | .bmi off => [0x30, off]
  | .andIzy b => [0x31, b]
  | .jam32 => [0x32]
  | .rlaIzy b => [0x33, b]
  | .nopZpx34 b => [0x34, b]
  | .andZpx b => [0x35, b]
  | .rolZpx b => [0x36, b]
  | .rlaZpx b => [0x37, b]
  | .sec => [0x38]
  | .andAby w => 0x39 :: wordBytes w
  | .nopImp3A => [0x3A]
  | .rlaAby w => 0x3B :: wordBytes w
  | .nopAbx3C w => 0x3C :: wordBytes w
  | .andAbx w => 0x3D :: wordBytes w
  | .rolAbx w => 0x3E :: wordBytes w
  | .rlaAbx w => 0x3F :: wordBytes w
  | .rti => [0x40]
  | .eorIzx b => [0x41, b]
  | .jam42 => [0x42]
  | .sreIzx b => [0x43, b]
  | .nopZp44 b => [0x44, b]
  | .eorZp b => [0x45, b]
  | .lsrZp b => [0x46, b]
  | .sreZp b => [0x47, b]
  | .pha => [0x48]
  | .eorImm v => [0x49, v]
  | .lsrAcc => [0x4A]
  | .asrImm v => [0x4B, v]
  | .jmpAbs w => 0x4C :: wordBytes w
  | .eorAbs w => 0x4D :: wordBytes w
  | .lsrAbs w => 0x4E :: wordBytes w
  | .sreAbs w => 0x4F :: wordBytes w
  | .bvc off => [0x50, off]
  | .eorIzy b => [0x51, b]
  | .jam52 => [0x52]
  | .sreIzy b => [0x53, b]
  | .nopZpx54 b => [0x54, b]
  | .eorZpx b => [0x55, b]
  | .lsrZpx b => [0x56, b]
  | .sreZpx b => [0x57, b]
  | .cli => [0x58]
  | .eorAby w => 0x59 :: wordBytes w
  | .nopImp5A => [0x5A]
  | .sreAby w => 0x5B :: wordBytes w
  | .nopAbx5C w => 0x5C :: wordBytes w
  | .eorAbx w => 0x5D :: wordBytes w
  | .lsrAbx w => 0x5E :: wordBytes w
  | .sreAbx w => 0x5F :: wordBytes w
  | .rts => [0x60]
  | .adcIzx b => [0x61, b]
  | .jam62 => [0x62]
  | .rraIzx b => [0x63, b]
  | .nopZp64 b => [0x64, b]
  | .adcZp b => [0x65, b]
  | .rorZp b => [0x66, b]
  | .rraZp b => [0x67, b]
  | .pla => [0x68]
  | .adcImm v => [0x69, v]
  | .rorAcc => [0x6A]
  | .arrImm v => [0x6B, v]
  | .jmpInd p => 0x6C :: wordBytes p
  | .adcAbs w => 0x6D :: wordBytes w
  | .rorAbs w => 0x6E :: wordBytes w
  | .rraAbs w => 0x6F :: wordBytes w
  | .bvs off => [0x70, off]
  | .adcIzy b => [0x71, b]
  | .jam72 => [0x72]
  | .rraIzy b => [0x73, b]
  | .nopZpx74 b => [0x74, b]
  | .adcZpx b => [0x75, b]
  | .rorZpx b => [0x76, b]
  | .rraZpx b => [0x77, b]
  | .sei => [0x78]
  | .adcAby w => 0x79 :: wordBytes w
  | .nopImp7A => [0x7A]
  | .rraAby w => 0x7B :: wordBytes w
  | .nopAbx7C w => 0x7C :: wordBytes w
  | .adcAbx w => 0x7D :: wordBytes w
  | .rorAbx w => 0x7E :: wordBytes w
  | .rraAbx w => 0x7F :: wordBytes w
  | .nopImm80 v => [0x80, v]
  | .staIzx b => [0x81, b]
  | .nopImm82 v => [0x82, v]
  | .saxIzx b => [0x83, b]
  | .styZp b => [0x84, b]
  | .staZp b => [0x85, b]
  | .stxZp b => [0x86, b]
  | .saxZp b => [0x87, b]
  | .dey => [0x88]
  | .nopImm89 v => [0x89, v]
  | .txa => [0x8A]
  | .aneImm v => [0x8B, v]
  | .styAbs w => 0x8C :: wordBytes w
  | .staAbs w => 0x8D :: wordBytes w
  | .stxAbs w => 0x8E :: wordBytes w
  | .saxAbs w => 0x8F :: wordBytes w
  | .bcc off => [0x90, off]
  | .staIzy b => [0x91, b]
  | .jam92 => [0x92]
  | .shaIzy b => [0x93, b]
  | .styZpx b => [0x94, b]
  | .staZpx b => [0x95, b]
  | .stxZpy b => [0x96, b]
  | .saxZpy b => [0x97, b]
  | .tya => [0x98]
  | .staAby w => 0x99 :: wordBytes w
  | .txs => [0x9A]
  | .shsAby w => 0x9B :: wordBytes w
  | .shyAbx w => 0x9C :: wordBytes w
  | .staAbx w => 0x9D :: wordBytes w
  | .shxAby w => 0x9E :: wordBytes w
  | .shaAby w => 0x9F :: wordBytes w
  | .ldyImm v => [0xA0, v]
  | .ldaIzx b => [0xA1, b]
  | .ldxImm v => [0xA2, v]
  | .laxIzx b => [0xA3, b]
  | .ldyZp b => [0xA4, b]
  | .ldaZp b => [0xA5, b]
  | .ldxZp b => [0xA6, b]
  | .laxZp b => [0xA7, b]
  | .tay => [0xA8]
  | .ldaImm v => [0xA9, v]
  | .tax => [0xAA]
  | .lxaImm v => [0xAB, v]
  | .ldyAbs w => 0xAC :: wordBytes w
  | .ldaAbs w => 0xAD :: wordBytes w
  | .ldxAbs w => 0xAE :: wordBytes w
  | .laxAbs w => 0xAF :: wordBytes w
  | .bcs off => [0xB0, off]
  | .ldaIzy b => [0xB1, b]
  | .jamB2 => [0xB2]
  | .laxIzy b => [0xB3, b]
  | .ldyZpx b => [0xB4, b]
  | .ldaZpx b => [0xB5, b]
  | .ldxZpy b => [0xB6, b]
  | .laxZpy b => [0xB7, b]
  | .clv => [0xB8]
  | .ldaAby w => 0xB9 :: wordBytes w
  | .tsx => [0xBA]
  | .lasAby w => 0xBB :: wordBytes w
  | .ldyAbx w => 0xBC :: wordBytes w
  | .ldaAbx w => 0xBD :: wordBytes w
  | .ldxAby w => 0xBE :: wordBytes w
  | .laxAby w => 0xBF :: wordBytes w
  | .cpyImm v => [0xC0, v]
  | .cmpIzx b => [0xC1, b]
  | .nopImmC2 v => [0xC2, v]
  | .dcpIzx b => [0xC3, b]
  | .cpyZp b => [0xC4, b]
  | .cmpZp b => [0xC5, b]
  | .decZp b => [0xC6, b]
  | .dcpZp b => [0xC7, b]
  | .iny => [0xC8]
  | .cmpImm v => [0xC9, v]
  | .dex => [0xCA]
  | .sbxImm v => [0xCB, v]
  | .cpyAbs w => 0xCC :: wordBytes w
  | .cmpAbs w => 0xCD :: wordBytes w
  | .decAbs w => 0xCE :: wordBytes w
  | .dcpAbs w => 0xCF :: wordBytes w
  | .bne off => [0xD0, off]
  | .cmpIzy b => [0xD1, b]
  | .jamD2 => [0xD2]
  | .dcpIzy b => [0xD3, b]
  | .nopZpxD4 b => [0xD4, b]
  | .cmpZpx b => [0xD5, b]
  | .decZpx b => [0xD6, b]
  | .dcpZpx b => [0xD7, b]
  | .cld => [0xD8]
  | .cmpAby w => 0xD9 :: wordBytes w
  | .nopImpDA => [0xDA]
  | .dcpAby w => 0xDB :: wordBytes w
  | .nopAbxDC w => 0xDC :: wordBytes w
  | .cmpAbx w => 0xDD :: wordBytes w
  | .decAbx w => 0xDE :: wordBytes w
  | .dcpAbx w => 0xDF :: wordBytes w
  | .cpxImm v => [0xE0, v]
  | .sbcIzx b => [0xE1, b]
  | .nopImmE2 v => [0xE2, v]
  | .isbIzx b => [0xE3, b]
  | .cpxZp b => [0xE4, b]
  | .sbcZp b => [0xE5, b]
  | .incZp b => [0xE6, b]
  | .isbZp b => [0xE7, b]
  | .inx => [0xE8]
  | .sbcImm v => [0xE9, v]
  | .nop => [0xEA]
  | .sbcImmEB v => [0xEB, v]
  | .cpxAbs w => 0xEC :: wordBytes w
  | .sbcAbs w => 0xED :: wordBytes w
  | .incAbs w => 0xEE :: wordBytes w
  | .isbAbs w => 0xEF :: wordBytes w
  | .beq off => [0xF0, off]
  | .sbcIzy b => [0xF1, b]
  | .jamF2 => [0xF2]
  | .isbIzy b => [0xF3, b]
  | .nopZpxF4 b => [0xF4, b]
  | .sbcZpx b => [0xF5, b]
  | .incZpx b => [0xF6, b]
  | .isbZpx b => [0xF7, b]
  | .sed => [0xF8]
  | .sbcAby w => 0xF9 :: wordBytes w
  | .nopImpFA => [0xFA]
  | .isbAby w => 0xFB :: wordBytes w
  | .nopAbxFC w => 0xFC :: wordBytes w
  | .sbcAbx w => 0xFD :: wordBytes w
  | .incAbx w => 0xFE :: wordBytes w
  | .isbAbx w => 0xFF :: wordBytes w

/-- The three bytes of an instruction whose bits are `w`, numbered as spec/opcode_table.json numbers them, with every bit
above the `nbits` of the table zero. -/
def tableBytes (nbits w : Nat) : List Byte :=
  let m := w % 2 ^ nbits
  [BitVec.ofNat 8 m, BitVec.ofNat 8 (m / 256), BitVec.ofNat 8 (m / 65536)]

/-- The instruction the decoder reads from an instruction whose bits are `w`. -/
def decodeTableWord (nbits w : Nat) : Option Instr :=
  match decode (tableBytes nbits w) with
  | .ok (i, _) => some i
  | .error _ => none

end Sys2Proof
end

