-- ==== Sys2Proof/Config.lean ====
section
/-! DEFINITION. What an implementation fixes (the parameters of 00_scope.md R7) and what the spec leaves open (the free
values: constants without a body, so that nothing can be proved of which value they take). -/

namespace Sys2Proof

/-- The members of the family (R2). -/
inductive Variant where
  | mos6502 | mos6510 | mos8500 | mos8502
deriving DecidableEq, Repr

/-- The two accounts of LXA that the source records and does not reconcile (R292). -/
inductive LxaVariant where
  | lehti | alternate
deriving DecidableEq, Repr

/-- The parameter `Bus` of R7 and R60, what answers at the addresses: 64 KB of plain RAM; the Commodore 64's memory map
(20_memory.md section 8); or any other bus, of which nothing is assumed, side effects of reads included (log 41). -/
inductive Platform where
  | flatRam | commodore64 | external
deriving DecidableEq, Repr

/-- The named parameters of R7. They stand in the state so that every statement covers every value of them; no step
writes them (log 4). NMI_IRQ_ORDER is fixed at NMI first (D8), RESET_VECTOR is `Config.resetVector`, and the draws are
the free values below. -/
structure Params where
  variant : Variant
  /-- HAS_IO_PORT (R80). -/
  hasIoPort : Bool
  /-- PORT_LINES (R81): 6 on the 6510, 7 on the 8502. -/
  portLines : Nat
  /-- HAS_SO (R329). -/
  hasSo : Bool
  /-- HAS_ROR (R113). -/
  hasRor : Bool
  /-- LXA_VARIANT (R292). -/
  lxaVariant : LxaVariant
  /-- NMI_SETS_I (R322). -/
  nmiSetsI : Bool
  /-- RARE_JAM (R301, D15): true is `may`, false is `never`. -/
  rareJam : Bool
  platform : Platform
deriving DecidableEq, Repr

/-- One bus cycle: every cycle of the processor is a read or a write of one byte (R8). -/
inductive BusAccess where
  | read (addr : Word) (data : Byte)
  | write (addr : Word) (data : Byte)
deriving DecidableEq, Repr

/-- The devices of the Commodore 64's I/O area whose registers the spec does not give (R5, R90). -/
inductive IoChip where
  | vic | sid | cia1 | cia2
deriving DecidableEq, Repr

/-- Where a processor's access reaches something that need not behave like memory (R60): an address of an external bus,
or a register of a device of the Commodore 64. -/
inductive DevicePlace where
  | address (a : Word)
  | chip (which : IoChip) (reg : Nat)
deriving DecidableEq, Repr

namespace Config

/-- RESET_VECTOR (R351, D4). PRESUMED: the spec has the address from general knowledge (log 6). -/
def resetVector : Word := 0xFFFC

/-- The NMI vector (R73, R313). -/
def nmiVector : Word := 0xFFFA

/-- The vector of IRQ and BRK (R73, R312). -/
def irqVector : Word := 0xFFFE

/-- The constant of LXA and ANE that no DMA perturbs, and the three others (R291, D13), chosen by a two-bit draw. -/
def aneConst (draw : BitVec 2) : Byte :=
  if draw = 0 then 0x11 else if draw = 1 then 0x10 else if draw = 2 then 0x01 else 0x00

/-- Free value: ANE_CONST, drawn at each execution of ANE and LXA (R291, R292, D13; log 21). -/
opaque aneDraw : Nat → BitVec 2

/-- Free value: RARE_JAM, drawn at each execution of $82, $C2, $E2 (R301, D15; log 25). -/
opaque rareJamDraw : Nat → Bool

/-- Free value: what the bits of DDR and PR above PORT_LINES - 1 read as (R81, D18; log 29). -/
opaque portHighBits : Nat → Byte

/-- Free value: the byte left on the bus that a processor write to $0000 or $0001 puts on the platform (R80, D17; log 30). -/
opaque busResidue : Nat → Byte

/-- Free value: the byte an unconnected address answers (R75, D17; log 34). -/
opaque openBus : Nat → Byte

/-- The parameter `Bus` (R7, R60): the byte a read obtains, given the devices' state and the count of cycles (log 33,
log 41). -/
opaque deviceAnswer : DevicePlace → Nat → Nat → Byte

/-- The parameter `Bus`: the devices' state after a read, which may have a side effect (R60, R66; log 33, log 41). -/
opaque deviceAfterRead : DevicePlace → Nat → Nat → Nat

/-- The parameter `Bus`: the devices' state after a write of a byte (R60, R66; log 33, log 41). -/
opaque deviceAfterWrite : DevicePlace → Byte → Nat → Nat → Nat

/-- Free value: what an assertion of -RESET leaves of the devices' state, given the state before it (R355; log 43). -/
opaque deviceAfterReset : Nat → Nat → Nat

/-- Free value: S after a reset sequence (R350, D5; log 12). -/
opaque resetS : Nat → Byte

/-- Free value: P.I after a reset sequence (R350, D5; log 12). -/
opaque resetI : Nat → Bool

/-- Free value: the PR output latch after a reset sequence (R354, D18; log 12). -/
opaque resetLatch : Nat → Byte

/-- Free value: the addresses read before the vector by a reset sequence, of which at most five count (R350, U20; log 12). -/
opaque resetReads : Nat → List Word

/-- Free value: what the bus does in a cycle of a jammed processor (R302, N8; log 26). -/
opaque jamBus : Nat → List BusAccess

/-- Free value: the devices' state after a cycle of a jammed processor, given the state before it (R302, N8; log 26). -/
opaque jamDevice : Nat → Nat → Nat

end Config

end Sys2Proof
end

