-- ==== Sys2Proof/Machine/Memory.lean ====
section
/-! DEFINITION. A byte memory: a list of (address, byte) pairs in one canonical form (addresses strictly rising, no
entry equal to what an unlisted address reads as). -/

namespace Sys2Proof.Machine

/-- A memory of bytes, sparse (20_memory.md R60). -/
abbrev Memory := List Host.Cell

/-- What an unlisted byte reads as. DESIGN CHOICE (log 2): the spec leaves RAM at power-on unspecified (R40, R353). -/
def unlistedByte : Byte := 0x00

/-- The byte at an address: that of the first entry listed for it. -/
def Memory.read : Memory → Nat → Byte
  | [], _ => unlistedByte
  | (b, v) :: m, a => if b = a then v else Memory.read m a

/-- The memory without any entry for an address. -/
def Memory.erase (m : Memory) (a : Nat) : Memory := m.filter fun c => c.1 != a

/-- An entry put where the rising order wants it. -/
def Memory.place : Memory → Nat → Byte → Memory
  | [], a, v => [(a, v)]
  | (b, w) :: m, a, v => if a < b then (a, v) :: (b, w) :: m else (b, w) :: Memory.place m a v

/-- One byte written: an entry equal to what an unlisted address reads as is not listed. -/
def Memory.write (m : Memory) (a : Nat) (v : Byte) : Memory :=
  if v = unlistedByte then m.erase a else (m.erase a).place a v

/-- Addresses strictly rising, all above `lo` or equal to it. -/
def Memory.risingFrom : Nat → Memory → Bool
  | _, [] => true
  | lo, (b, _) :: m => decide (lo ≤ b) && Memory.risingFrom (b + 1) m

/-- The canonical form: rising addresses inside the 64 KB space (R60), and no entry equal to an unlisted byte. -/
def Memory.wf (m : Memory) : Bool :=
  Memory.risingFrom 0 m && m.all fun c => decide (c.1 < 65536) && c.2 != unlistedByte

end Sys2Proof.Machine
end

