-- ==== Sys2Proof/Machine/State.lean ====
section
/-! DEFINITION. The state of the machine, as plain data: every piece of state the spec names (10_state.md,
20_memory.md), the parameters of R7, the environment's input, and the list of the bus accesses of the step. -/

namespace Sys2Proof.Machine

/-- The six stored flags of P (10_state.md R24). Bits 5 and 4 have no storage. -/
structure Flags where
  n : Bool
  v : Bool
  d : Bool
  i : Bool
  z : Bool
  c : Bool
deriving DecidableEq, Repr

/-- The environment's answer to whether a hardware interrupt overtakes a BRK executed in this step (R323, D9). -/
inductive Hijack where
  | none | nmi | irq
deriving DecidableEq, Repr

/-- What the environment does at one instruction boundary (00_scope.md R14, 60_exceptions.md R316, R323, R329). -/
structure Input where
  /-- An NMI event occurs (R313, D7). -/
  nmi : Bool
  /-- The level of -IRQ from now on: true when the line is low (R312). -/
  irq : Bool
  /-- -RESET is asserted (and released again) (R314). -/
  reset : Bool
  /-- -SO is pulsed (R329). -/
  so : Bool
  /-- The levels of the port lines from now on (R82). -/
  portIn : Byte
  /-- The levels of the two cartridge lines of the Commodore 64 from now on (R86). -/
  exrom : Bool
  game : Bool
  /-- A pending interrupt is left for a later boundary (R316, D10). -/
  defer : Bool
  /-- If the step executes BRK, what overtakes it (R323, D9). -/
  hijack : Hijack
deriving DecidableEq, Repr

/-- The ROMs of the Commodore 64 and of its cartridge, by the processor's address (20_memory.md R88). -/
structure Roms where
  kernal : Memory
  basic : Memory
  character : Memory
  romL : Memory
  romH : Memory
deriving DecidableEq, Repr

/-- The machine's state. The comments name the rule of each field; INVENTORY.md gives the reset values. -/
structure State where
  /-- Accumulator (R33). -/
  A : Byte
  /-- Index register X (R34). -/
  X : Byte
  /-- Index register Y (R35). -/
  Y : Byte
  /-- Stack pointer, an offset into page 1 (R22). -/
  S : Byte
  /-- The stored flags (R23, R24). -/
  P : Flags
  /-- Program counter (R21). -/
  pc : Word
  /-- Data Direction Register of the on-chip port, implemented bits (R80, R81). -/
  ddr : Byte
  /-- Output latch of the on-chip port, implemented bits (R81, R82). -/
  prLatch : Byte
  /-- The stuck state of R37. -/
  jammed : Bool
  /-- An NMI event not yet taken (R36). -/
  nmiPending : Bool
  /-- The level of -IRQ, true when low (R36). -/
  irqLine : Bool
  /-- A -RESET whose sequence has not run yet (R36, R350). -/
  resetLine : Bool
  /-- The levels of the port lines from outside (R82). -/
  portIn : Byte
  /-- The cartridge lines -EXROM and -GAME of the Commodore 64 (R86). -/
  exrom : Bool
  game : Bool
  /-- The RAM of the platform: 64 KB (R60). -/
  ram : Memory
  /-- The colour RAM of the Commodore 64, low nybbles (R90). -/
  colorRam : Memory
  /-- The ROMs of the Commodore 64 (R88). -/
  roms : Roms
  /-- The model's own: the state of the devices on the bus, in any encoding; only the parameter `Bus` reads or changes it
  (R60, D17; log 41). -/
  device : Nat
  /-- The parameters (R7); no step writes them. -/
  params : Params
  /-- The model's own: what the environment does at the boundaries to come, one entry a step (log 9). -/
  inputs : List Input
  /-- The model's own: the environment's choice at this boundary to let one more instruction run (D10). -/
  defer : Bool
  /-- The model's own: what overtakes a BRK executed in this step (D9). -/
  hijack : Hijack
  /-- The model's own: an interrupt sequence has just run, its routine's first instruction comes next (R320; log 13). -/
  vectored : Bool
  /-- The bus accesses of the step, in order (R13, R66). -/
  accesses : List BusAccess
  /-- The model's own: bus cycles taken so far, the index of the free values (log 38). -/
  tick : Nat
deriving DecidableEq, Repr

/-- Why the machine stops with a fault: never. No opcode, address or alignment raises anything (R310), so the type has
no constructor. -/
inductive Fault where
deriving DecidableEq, Repr

/-- Why a step has no meaning. -/
inductive Refusal where
  /-- Raised by an arm of `exec` whose instruction has no meaning yet; no arm is left. Safe. -/
  | notModelled (mnemonic : String)
  /-- Raised by ROR, RRA and ARR on a part without the ROR instruction (R113, U12, D23): the spec gives no effect. Safe. -/
  | rorAbsent
  /-- Raised by `step` if the bytes at pc did not decode; three bytes always decode (R106, R108), so never. Safe. -/
  | undecoded
deriving DecidableEq, Repr

/-- What a meaning answers. -/
abbrev Result := Host.Outcome State Fault Refusal

/-- The parameters of the state after reset: the reference member of R2 with 64 KB of RAM. DESIGN CHOICE (log 4). -/
def Params.atReset : Params :=
  { variant := .mos6502, hasIoPort := false, portLines := 0, hasSo := true, hasRor := true,
    lxaVariant := .alternate, nmiSetsI := false, rareJam := true, platform := .flatRam }

/-- The machine right after reset (R40, R350 to R354): nothing pending, not jammed, the port lines inputs, pc the word
at the reset vector of a memory that lists nothing (0000). The values of the registers are the model's: DESIGN CHOICE
(log 3). -/
def State.reset : State :=
  { A := 0, X := 0, Y := 0, S := 0,
    P := { n := false, v := false, d := false, i := false, z := false, c := false },
    pc := 0x0000,
    ddr := 0, prLatch := 0,
    jammed := false, nmiPending := false, irqLine := false, resetLine := false,
    portIn := 0xFF, exrom := true, game := true,
    ram := [], colorRam := [],
    roms := { kernal := [], basic := [], character := [], romL := [], romH := [] },
    device := 0,
    params := Params.atReset,
    inputs := [], defer := false, hijack := .none, vectored := false,
    accesses := [], tick := 0 }

end Sys2Proof.Machine
end

