-- ==== Sys2Proof/Machine/Flags.lean ====
section
/-! DEFINITION. Every flag computation and every arithmetic helper of the spec, as functions of bytes and flags. -/

namespace Sys2Proof.Machine

/-- `SetNZ(v)` (00_scope.md R11): N from bit 7, Z when the byte is zero. -/
def setNZ (v : Byte) (p : Flags) : Flags := { p with n := v.msb, z := v == 0 }

/-- `Preg(b)` (10_state.md R24): the byte image of P, bit 5 set and bit 4 equal to `b`. -/
def statusByte (b : Bool) (p : Flags) : Byte :=
  BitVec.ofNat 8 (128 * p.n.toNat + 64 * p.v.toNat + 32 + 16 * b.toNat + 8 * p.d.toNat + 4 * p.i.toNat + 2 * p.z.toNat
    + p.c.toNat)

/-- `FromByte(v)` (R24): the six stored flags from bits 7, 6, 3, 2, 1, 0; bits 5 and 4 are ignored. -/
def flagsOfByte (v : Byte) : Flags :=
  { n := v.getLsbD 7, v := v.getLsbD 6, d := v.getLsbD 3, i := v.getLsbD 2, z := v.getLsbD 1, c := v.getLsbD 0 }

/-- The result and the four flags of an addition or subtraction. -/
structure Sum where
  val : Byte
  n : Bool
  v : Bool
  z : Bool
  c : Bool
deriving DecidableEq, Repr

/-- `AddBinary(a, m, c)` (43_read.md R238). -/
def addBinary (a m : Byte) (c : Bool) : Sum :=
  let t := a.toNat + m.toNat + c.toNat
  let r := BitVec.ofNat 8 t
  { val := r, n := r.msb, v := (~~~(a ^^^ m) &&& (a ^^^ r)).msb, z := r == 0, c := decide (256 ≤ t) }

/-- The sum of the low nybbles with its decimal carry, as R240 writes it. -/
def decimalLow (a m : Byte) (c : Bool) : Nat :=
  let al := a.toNat % 16 + m.toNat % 16 + c.toNat
  if 10 ≤ al then (al + 6) % 16 + 16 else al

/-- `DEC_ADC(a, m, c)` in the recommended instantiation (R240). PRESUMED: the spec has it from general knowledge
(log 18). -/
def decAdc (a m : Byte) (c : Bool) : Sum :=
  let t := a.toNat / 16 * 16 + m.toNat / 16 * 16 + decimalLow a m c
  let t8 := BitVec.ofNat 8 t
  let t' := if 160 ≤ t then t + 96 else t
  { val := BitVec.ofNat 8 t', n := t8.msb, v := (~~~(a ^^^ m) &&& (a ^^^ t8)).msb,
    z := BitVec.ofNat 8 (a.toNat + m.toNat + c.toNat) == 0, c := decide (256 ≤ t') }

/-- `DEC_SBC(a, m, c)` in the recommended instantiation (R241): the flags are those of the binary subtraction. PRESUMED
(log 18). -/
def decSbc (a m : Byte) (c : Bool) : Sum :=
  let b := addBinary a (~~~m) c
  let al : Int := (a.toNat % 16 : Int) - (m.toNat % 16 : Int) + (c.toNat : Int) - 1
  let al' : Int := if al < 0 then (al - 6) % 16 - 16 else al
  let t : Int := (a.toNat / 16 * 16 : Int) - (m.toNat / 16 * 16 : Int) + al'
  let t' : Int := if t < 0 then t - 96 else t
  { b with val := BitVec.ofInt 8 t' }

/-- The sum ADC computes: binary or decimal as P.D says (R236). -/
def adcSum (a m : Byte) (p : Flags) : Sum := if p.d then decAdc a m p.c else addBinary a m p.c

/-- The difference SBC computes: binary or decimal as P.D says (R237). -/
def sbcSum (a m : Byte) (p : Flags) : Sum := if p.d then decSbc a m p.c else addBinary a (~~~m) p.c

/-- The flags an addition or subtraction writes: N, V, Z, C. -/
def setSum (r : Sum) (p : Flags) : Flags := { p with n := r.n, v := r.v, z := r.z, c := r.c }

/-- `Compare(r, m)` (R239): C when there is no borrow, N and Z of the difference; V and D untouched. -/
def compareFlags (r m : Byte) (p : Flags) : Flags := { setNZ (r - m) p with c := decide (m.toNat ≤ r.toNat) }

/-- The flags of BIT (R245): N and V from the memory byte, Z from `A & M`. -/
def bitFlags (a m : Byte) (p : Flags) : Flags := { p with n := m.getLsbD 7, v := m.getLsbD 6, z := a &&& m == 0 }

/-- ASL (44_rmw_write.md R250): the new byte and the flags. -/
def asl (v : Byte) (p : Flags) : Byte × Flags :=
  let r := v <<< 1
  (r, { setNZ r p with c := v.getLsbD 7 })

/-- LSR (R251). -/
def lsr (v : Byte) (p : Flags) : Byte × Flags :=
  let r := v >>> 1
  (r, { setNZ r p with c := v.getLsbD 0 })

/-- The byte rotated left through C (R252). -/
def rolByte (v : Byte) (c : Bool) : Byte := (v <<< 1) ||| BitVec.ofNat 8 c.toNat

/-- The byte rotated right through C (R253). -/
def rorByte (v : Byte) (c : Bool) : Byte := (v >>> 1) ||| BitVec.ofNat 8 (128 * c.toNat)

/-- ROL (R252). -/
def rol (v : Byte) (p : Flags) : Byte × Flags :=
  let r := rolByte v p.c
  (r, { setNZ r p with c := v.getLsbD 7 })

/-- ROR (R253). -/
def ror (v : Byte) (p : Flags) : Byte × Flags :=
  let r := rorByte v p.c
  (r, { setNZ r p with c := v.getLsbD 0 })

/-- INC (R254): C and V are not written. -/
def inc (v : Byte) (p : Flags) : Byte × Flags := (v + 1, setNZ (v + 1) p)

/-- DEC (R255): C and V are not written. -/
def dec (v : Byte) (p : Flags) : Byte × Flags := (v - 1, setNZ (v - 1) p)

/-- ARR in binary mode (45_undocumented.md R281): `t` is the AND of A and the operand. -/
def arrBinary (t : Byte) (p : Flags) : Byte × Flags :=
  let r := rorByte t p.c
  (r, { setNZ r p with c := r.getLsbD 6, v := r.getLsbD 6 ^^ r.getLsbD 5 })

/-- The BCD fixup of the low nybble in the source's routine (R281): the high nybble is not adjusted. -/
def arrFixLow (t r : Byte) : Byte :=
  let al := t.toNat % 16
  if 5 < al + al % 2 then (r &&& 0xF0) ||| ((r + 6) &&& 0x0F) else r

/-- Whether the source's routine fixes the high nybble, which is also the carry out (R281). -/
def arrHighCarry (t : Byte) : Bool :=
  let ah := t.toNat / 16
  decide (5 < ah + ah % 2)

/-- ARR in decimal mode: the source's C routine (R281), line by line. -/
def arrDecimal (t : Byte) (p : Flags) : Byte × Flags :=
  let r := rorByte t p.c
  let low := arrFixLow t r
  let res := if arrHighCarry t then low + 0x60 else low
  (res, { p with n := p.c, z := r == 0, v := (t ^^^ r).getLsbD 6, c := arrHighCarry t })

/-- The value ANE computes for a constant `k` (R291): `((A & k & X) | ($EE & X)) & M`. -/
def aneValue (k a x m : Byte) : Byte := ((a &&& k &&& x) ||| (0xEE &&& x)) &&& m

end Sys2Proof.Machine
end

