-- ==== Sys2Proof/Machine/Platform.lean ====
section
/-! DEFINITION. What lies on the bus: the on-chip port of the 6510 and 8502 (20_memory.md R80 to R85) and the two
instances of `Bus`, plain RAM and the Commodore 64's memory map (R86 to R90), beside the bus of which nothing is known
(R60). -/

namespace Sys2Proof.Machine

/-- The implemented bits of DDR and PR: bits 0 to PORT_LINES - 1 (R81). -/
def portMask (p : Params) : Byte := BitVec.ofNat 8 (2 ^ p.portLines - 1)

/-- An address is that of a register of the on-chip port: $0000 or $0001 when HAS_IO_PORT (R80). -/
def isPortRegister (p : Params) (a : Word) : Bool := p.hasIoPort && (a == 0 || a == 1)

/-- The levels of the lines from outside. On a Commodore 64 the pull-ups make the three memory-management lines high
(R82, R84, R86). -/
def outsideLevels (s : State) : Byte :=
  match s.params.platform with
  | .flatRam => s.portIn
  | .commodore64 => s.portIn ||| 0x07
  | .external => s.portIn

/-- The levels of the port lines: the latch on an output, the outside level on an input (R82). -/
def lineLevels (s : State) : Byte := (s.prLatch &&& s.ddr) ||| (outsideLevels s &&& ~~~s.ddr)

/-- A byte whose unimplemented bits are a free value (R81, D18; log 29). -/
def withOpenBits (v : Byte) (s : State) : Byte :=
  (v &&& portMask s.params) ||| (Config.portHighBits s.tick &&& ~~~portMask s.params)

/-- What a processor read of $0000 returns (R80). -/
def readDdr (s : State) : Byte := withOpenBits s.ddr s

/-- What a processor read of $0001 returns (R82). -/
def readPr (s : State) : Byte := withOpenBits (lineLevels s) s

/-- The nine memory configurations of the Commodore 64: the columns of the table of R87. -/
inductive BankConfig where
  | c1111 | c101x | c1000 | c011x | c001xOr00x0 | c1110 | c0100 | c1100 | cxx01
deriving DecidableEq, Repr

/-- The column for the lines -LORAM, -HIRAM, -GAME, -EXROM (R87). -/
def bankConfig (loram hiram game exrom : Bool) : BankConfig :=
  match loram, hiram, game, exrom with
  | _, _, false, true => .cxx01
  | true, true, true, true => .c1111
  | true, true, true, false => .c1110
  | true, true, false, false => .c1100
  | true, false, true, _ => .c101x
  | true, false, false, false => .c1000
  | false, true, true, _ => .c011x
  | false, true, false, false => .c0100
  | false, false, true, _ => .c001xOr00x0
  | false, false, false, false => .c001xOr00x0

/-- The entries of the table (R88). `io` is the I/O area, `unconnected` the table's "-". -/
inductive Region where
  | ram | kernal | basic | character | romL | romH | io | unconnected
deriving DecidableEq, Repr

/-- The entry at $D000-$DFFF when it is selected by -CHAREN (R88): IO/C and IO/RAM (C8). -/
def ioOr (other : Region) (charen : Bool) : Region := if charen then .io else other

/-- The column of the table for an address (R87), given -CHAREN. -/
def regionAt (c : BankConfig) (charen : Bool) (a : Nat) : Region :=
  if 0xE000 ≤ a then
    match c with
    | .c1111 | .c011x | .c1110 | .c0100 | .c1100 => .kernal
    | .c101x | .c1000 | .c001xOr00x0 => .ram
    | .cxx01 => .romH
  else if 0xD000 ≤ a then
    match c with
    | .c1111 | .c101x | .c011x | .c1110 | .c0100 | .c1100 => ioOr .character charen
    | .c1000 => ioOr .ram charen
    | .c001xOr00x0 => .ram
    | .cxx01 => .io
  else if 0xC000 ≤ a then
    match c with
    | .cxx01 => .unconnected
    | .c1111 | .c101x | .c1000 | .c011x | .c001xOr00x0 | .c1110 | .c0100 | .c1100 => .ram
  else if 0xA000 ≤ a then
    match c with
    | .c1111 | .c1110 => .basic
    | .c0100 | .c1100 => .romH
    | .c101x | .c1000 | .c011x | .c001xOr00x0 => .ram
    | .cxx01 => .unconnected
  else if 0x8000 ≤ a then
    match c with
    | .c1110 | .c1100 | .cxx01 => .romL
    | .c1111 | .c101x | .c1000 | .c011x | .c001xOr00x0 | .c0100 => .ram
  else if 0x1000 ≤ a then
    match c with
    | .cxx01 => .unconnected
    | .c1111 | .c101x | .c1000 | .c011x | .c001xOr00x0 | .c1110 | .c0100 | .c1100 => .ram
  else .ram

/-- The configuration the port lines P0 (-LORAM), P1 (-HIRAM) and the cartridge lines select (R83, R86). -/
def currentBank (s : State) : BankConfig :=
  bankConfig ((lineLevels s).getLsbD 0) ((lineLevels s).getLsbD 1) s.game s.exrom

/-- What answers at an address of the Commodore 64 now; P2 is -CHAREN (R83). -/
def currentRegion (s : State) (a : Word) : Region :=
  regionAt (currentBank s) ((lineLevels s).getLsbD 2) a.toNat

/-- What the I/O area holds at an address (R90). -/
inductive IoPlace where
  | chip (which : IoChip) (reg : Nat)
  | color
  | expansion
deriving DecidableEq, Repr

/-- The owner of an address of $D000-$DFFF, with the mirroring of R90. -/
def ioPlace (a : Nat) : IoPlace :=
  if a < 0xD400 then .chip .vic (a % 0x40)
  else if a < 0xD800 then .chip .sid (a % 0x20)
  else if a < 0xDC00 then .color
  else if a < 0xDD00 then .chip .cia1 (a % 0x10)
  else if a < 0xDE00 then .chip .cia2 (a % 0x10)
  else .expansion

/-- What the I/O area answers: a device answers for its register, only the lower nybbles of the colour RAM are
connected, and the expansion area is open (R75, R90; log 33, log 34). -/
def ioRead (s : State) (a : Nat) : Byte :=
  match ioPlace a with
  | .chip which reg => Config.deviceAnswer (.chip which reg) s.device s.tick
  | .color => (s.colorRam.read a &&& 0x0F) ||| (Config.openBus s.tick &&& 0xF0)
  | .expansion => Config.openBus s.tick

/-- `BusRead` of the Commodore 64 (R87, R88, R90). -/
def c64Read (s : State) (a : Word) : Byte :=
  match currentRegion s a with
  | .ram => s.ram.read a.toNat
  | .kernal => s.roms.kernal.read a.toNat
  | .basic => s.roms.basic.read a.toNat
  | .character => s.roms.character.read a.toNat
  | .romL => s.roms.romL.read a.toNat
  | .romH => s.roms.romH.read a.toNat
  | .io => ioRead s a.toNat
  | .unconnected => Config.openBus s.tick

/-- `BusRead` (R60): what the platform answers at an address. -/
def busRead (s : State) (a : Word) : Byte :=
  match s.params.platform with
  | .flatRam => s.ram.read a.toNat
  | .commodore64 => c64Read s a
  | .external => Config.deviceAnswer (.address a) s.device s.tick

/-- The device register a read of an address of the Commodore 64 reaches, if it reaches one (R90). -/
def c64ReadsDevice (s : State) (a : Word) : Option DevicePlace :=
  match currentRegion s a with
  | .io =>
    match ioPlace a.toNat with
    | .chip which reg => some (.chip which reg)
    | .color => none
    | .expansion => none
  | .ram => none
  | .kernal => none
  | .basic => none
  | .character => none
  | .romL => none
  | .romH => none
  | .unconnected => none

/-- What a read of an address reaches that may have a side effect (R60, R66). -/
def readsDevice (s : State) (a : Word) : Option DevicePlace :=
  match s.params.platform with
  | .flatRam => none
  | .commodore64 => c64ReadsDevice s a
  | .external => some (.address a)

/-- The devices' state after `BusRead` (R60, R66): memory has no side effect. -/
def busReadEffect (s : State) (a : Word) : Nat :=
  match readsDevice s a with
  | some place => Config.deviceAfterRead place s.device s.tick
  | none => s.device

/-- The RAM with one byte written. -/
def writeRam (s : State) (a : Word) (v : Byte) : State := { s with ram := s.ram.write a.toNat v }

/-- What a write to the I/O area stores: a nybble of colour RAM; a device takes the byte as it does (R90; log 33). -/
def ioWrite (s : State) (a : Word) (v : Byte) : State :=
  match ioPlace a.toNat with
  | .color => { s with colorRam := s.colorRam.write a.toNat (v &&& 0x0F) }
  | .chip which reg => { s with device := Config.deviceAfterWrite (.chip which reg) v s.device s.tick }
  | .expansion => s

/-- `BusWrite` of the Commodore 64 (R89): a write to a ROM area goes through to the RAM, but not in the Ultimax
configuration, where the internal RAM answers only $0000-$0FFF. -/
def c64Write (s : State) (a : Word) (v : Byte) : State :=
  match currentRegion s a with
  | .ram => writeRam s a v
  | .kernal => writeRam s a v
  | .basic => writeRam s a v
  | .character => writeRam s a v
  | .romL => if currentBank s = .cxx01 then s else writeRam s a v
  | .romH => if currentBank s = .cxx01 then s else writeRam s a v
  | .io => ioWrite s a v
  | .unconnected => s

/-- `BusWrite` (R60). -/
def busWrite (s : State) (a : Word) (v : Byte) : State :=
  match s.params.platform with
  | .flatRam => writeRam s a v
  | .commodore64 => c64Write s a v
  | .external => { s with device := Config.deviceAfterWrite (.address a) v s.device s.tick }

/-- A byte placed from outside the machine in the memory that answers a read of an address (log 5); of an external bus
the model knows no memory. -/
def loadByte (s : State) (a : Word) (v : Byte) : State :=
  match s.params.platform with
  | .flatRam => writeRam s a v
  | .commodore64 =>
    match currentRegion s a with
    | .kernal => { s with roms := { s.roms with kernal := s.roms.kernal.write a.toNat v } }
    | .basic => { s with roms := { s.roms with basic := s.roms.basic.write a.toNat v } }
    | .character => { s with roms := { s.roms with character := s.roms.character.write a.toNat v } }
    | .romL => { s with roms := { s.roms with romL := s.roms.romL.write a.toNat v } }
    | .romH => { s with roms := { s.roms with romH := s.roms.romH.write a.toNat v } }
    | .ram => writeRam s a v
    | .io => writeRam s a v
    | .unconnected => writeRam s a v
  | .external => s

end Sys2Proof.Machine
end

