-- ==== Sys2Proof/Machine/Ops.lean ====
section
/-! DEFINITION. The named operations over the bus, the registers and the stack (00_scope.md R8 to R11), taking an
interrupt and returning from one (60_exceptions.md R320, R323, R326), the reset sequence (70_reset_and_hazards.md R350),
and what a step does at an instruction boundary (R316). -/

namespace Sys2Proof.Machine

/-- The byte a processor read of an address obtains now: the on-chip port at $0000 and $0001 when HAS_IO_PORT (R80,
R375), the bus elsewhere. -/
def peek (a : Word) (s : State) : Byte :=
  if s.params.hasIoPort && a == 0 then readDdr s
  else if s.params.hasIoPort && a == 1 then readPr s
  else busRead s a

/-- One bus cycle listed (R8, R13). -/
def logBus (e : BusAccess) (s : State) : State :=
  { s with tick := s.tick + 1, accesses := s.accesses ++ [e] }

/-- The devices' state after a processor read of an address (R60, R66). A read of a register of the on-chip port is no
`BusRead` (R60, R80; log 42). -/
def readEffect (a : Word) (s : State) : Nat :=
  if isPortRegister s.params a then s.device else busReadEffect s a

/-- `MemRead(addr, 1)` (R8): one read cycle, the byte it obtains and its side effect on the bus (R60). -/
def memRead (a : Word) (s : State) : Byte × State :=
  (peek a s, logBus (.read a (peek a s)) { s with device := readEffect a s })

/-- A dummy read (R8): the cycle happens, its data is discarded. -/
def dummyRead (a : Word) (s : State) : State := (memRead a s).2

/-- Reads at the addresses of a list, in order. -/
def readEach : List Word → State → State
  | [], s => s
  | a :: as, s => readEach as (dummyRead a s)

/-- The byte a read of an address obtains after reads at the addresses of a list, side effects included (R60, R66). -/
def peekAfter (as : List Word) (a : Word) (s : State) : Byte := peek a (readEach as s)

/-- What a write cycle stores, with the cycle listed (R8). At $0000 and $0001 of a part with the port the port's
register takes the byte and the platform is written the bus residue (R80, D17); elsewhere it is `BusWrite`. -/
def memWrite (a : Word) (v : Byte) (s : State) : State :=
  if s.params.hasIoPort && a == 0 then
    logBus (.write a (Config.busResidue s.tick))
      (busWrite { s with ddr := v &&& portMask s.params } a (Config.busResidue s.tick))
  else if s.params.hasIoPort && a == 1 then
    logBus (.write a (Config.busResidue s.tick))
      (busWrite { s with prLatch := v &&& portMask s.params } a (Config.busResidue s.tick))
  else logBus (.write a v) (busWrite s a v)

/-- `Fetch()` (R9): one read at pc, which advances by one on 16 bits (D2). -/
def fetch (s : State) : Byte × State :=
  let r := memRead s.pc s
  (r.1, { r.2 with pc := s.pc + 1 })

/-- A fetch whose byte the decoder has already given to the meaning, or whose byte is discarded. -/
def skip (s : State) : State := (fetch s).2

/-- The address $0100 + S (R10, R22). -/
def stackAddr (s : State) : Word := wordOf 0x01 s.S

/-- `Push(v)` (R10): a write at $0100 + S, then S decremented modulo 256 (D3). -/
def push (v : Byte) (s : State) : State :=
  let t := memWrite (stackAddr s) v s
  { t with S := t.S - 1 }

/-- `Pull()` (R10): S incremented modulo 256 (D3), then a read at $0100 + S. -/
def pull (s : State) : Byte × State :=
  let t := { s with S := s.S + 1 }
  memRead (stackAddr t) t

/-- A 16-bit vector or pointer read low byte first from two addresses (R62), into pc. -/
def jumpThrough (lowAt highAt : Word) (s : State) : State :=
  let lo := memRead lowAt s
  let hi := memRead highAt lo.2
  { hi.2 with pc := wordOf hi.1 lo.1 }

/-- TAKING AN EXCEPTION, shared by BRK, IRQ and NMI (41_stack_control.md R170, 60_exceptions.md R320, R321, R322): push
pc high, pc low and P with bit 4 equal to `b`, set I if `setI`, and load pc from the vector. P.D is left as it is. -/
def takeException (b setI : Bool) (vector : Word) (s : State) : State :=
  let t := push (statusByte b s.P) (push (lo8 s.pc) (push (hi8 s.pc) s))
  jumpThrough vector (vector + 1) { t with P := { t.P with i := t.P.i || setI } }

/-- RETURNING FROM ONE (R171, R326), after the two cycles every implied instruction begins with: a dummy stack read,
then P, pc low and pc high pulled; nothing is added to pc. -/
def returnFromException (s : State) : State :=
  let p := pull (dummyRead (stackAddr s) s)
  let lo := pull { p.2 with P := flagsOfByte p.1 }
  let hi := pull lo.2
  { hi.2 with pc := wordOf hi.1 lo.1 }

/-- The interrupt sequence for NMI (R320): two reads at pc, which does not advance (D21), then the entry; I as
NMI_SETS_I says (R322). -/
def nmiSequence (s : State) : State :=
  let t := dummyRead s.pc (dummyRead s.pc s)
  takeException false s.params.nmiSetsI Config.nmiVector { t with nmiPending := false, vectored := true }

/-- The interrupt sequence for IRQ (R320). -/
def irqSequence (s : State) : State :=
  let t := dummyRead s.pc (dummyRead s.pc s)
  takeException false true Config.irqVector { t with vectored := true }

/-- BRK after its opcode fetch and padding fetch (R170, R323): the vector is NMI's when an NMI overtakes it. -/
def brkSequence (s : State) : State :=
  match s.hijack with
  | .nmi => takeException true true Config.nmiVector { s with nmiPending := false }
  | .irq => takeException true true Config.irqVector s
  | .none => takeException true true Config.irqVector s

/-- The reset sequence (R350 to R354): the stuck state and a pending NMI are cleared, the port lines become inputs, S,
P.I and the output latch take free values (D5, D18), the devices on the bus a free state (R355; log 43), at most five reads at unspecified addresses happen, and pc is the
word at RESET_VECTOR; every other register is kept. -/
def resetSequence (s : State) : State :=
  let t := { s with
    jammed := false, nmiPending := false, resetLine := false, vectored := false,
    S := Config.resetS s.tick, P := { s.P with i := Config.resetI s.tick },
    ddr := 0, prLatch := Config.resetLatch s.tick &&& (if s.params.hasIoPort then portMask s.params else 0),
    device := Config.deviceAfterReset s.device s.tick }
  jumpThrough Config.resetVector (Config.resetVector + 1) (readEach ((Config.resetReads s.tick).take 5) t)

/-- A cycle of a jammed processor (R302, N8): nothing but unspecified bus activity. -/
def jamCycle (s : State) : State :=
  { s with
    tick := s.tick + 1, device := Config.jamDevice s.device s.tick, accesses := s.accesses ++ Config.jamBus s.tick }

/-- `Jam()` (R12, R37). -/
def jam (s : State) : State := jamCycle { s with jammed := true }

/-- What the environment does at a boundary: the lines take their levels, an NMI event is remembered, -SO sets V when
HAS_SO (R36, R313, R316, R329). -/
def applyInput (e : Input) (s : State) : State :=
  { s with
    nmiPending := s.nmiPending || e.nmi, irqLine := e.irq, resetLine := s.resetLine || e.reset,
    P := { s.P with v := s.P.v || (e.so && s.params.hasSo) },
    portIn := e.portIn, exrom := e.exrom, game := e.game, defer := e.defer, hijack := e.hijack }

/-- The instruction boundary: a new list of accesses begins, and the environment's next input, if there is one, acts. -/
def boundary (s : State) : State :=
  match s.inputs with
  | [] => { s with accesses := [], defer := false, hijack := .none }
  | e :: es => applyInput e { s with accesses := [], inputs := es }

/-- An interrupt may be recognised at this boundary: not when the environment leaves it for a later one (D10), nor
before the first instruction of a routine just entered (R320). -/
def recognises (s : State) : Bool := !s.defer && !s.vectored

/-- The NMI sequence runs at this boundary (R316, D8). -/
def takesNmi (s : State) : Bool := recognises s && s.nmiPending

/-- The IRQ sequence runs at this boundary, if the NMI sequence does not (R312, R316, D8). -/
def takesIrq (s : State) : Bool := recognises s && s.irqLine && !s.P.i

/-- The three bytes an instruction may have, each as a fetch after the fetches before it will obtain it (R100). -/
def fetchBytes (s : State) : List Byte :=
  [peek s.pc s, peekAfter [s.pc] (s.pc + 1) s, peekAfter [s.pc, s.pc + 1] (s.pc + 2) s]

/-- The state in which an instruction starts. -/
def startInstr (s : State) : State := { s with vectored := false }

/-- A state in which the next step is an instruction: nothing pending, not jammed, a quiet environment. -/
def quiet (s : State) : State :=
  { s with inputs := [], jammed := false, resetLine := false, nmiPending := false, irqLine := false }

/-- Three bytes placed at pc from outside the machine (log 5). -/
def placeAtPc (b0 b1 b2 : Byte) (s : State) : State :=
  loadByte (loadByte (loadByte s s.pc b0) (s.pc + 1) b1) (s.pc + 2) b2

end Sys2Proof.Machine
end

