-- ==== Sys2Proof/Machine/Operands.lean ====
section
/-! DEFINITION. The addressing modes and their bus sequences (40_addressing.md R130 to R144), and the shapes of the
instructions that use them. Cycle 1, the opcode fetch, is part of every sequence here. -/

namespace Sys2Proof.Machine

/-- The operand forms that lie in memory (00_scope.md section 5.4), with their operand bytes. -/
inductive MemMode where
  | zp (b : Byte) | zpx (b : Byte) | zpy (b : Byte)
  | abs (w : Word) | abx (w : Word) | aby (w : Word)
  | izx (b : Byte) | izy (b : Byte)
deriving DecidableEq, Repr

/-- Where an operand lies: the address before and after the high byte is fixed, whether a page was crossed, and the
high byte of the base (R136, R141; the H of 45_undocumented.md section 5). -/
structure Target where
  unfixed : Word
  fixed : Word
  crossed : Bool
  baseHi : Byte
deriving DecidableEq, Repr

/-- An operand whose address needs no fixing. -/
def direct (a : Word) : Target := { unfixed := a, fixed := a, crossed := false, baseHi := hi8 a }

/-- base + index: `ea1 = hi : ((lo + I) & $FF)`, `ea = (hi:lo + I) mod 65536`, crossed when `lo + I > $FF` (R136). -/
def indexedBy (base : Word) (i : Byte) : Target :=
  { unfixed := wordOf (hi8 base) (lo8 base + i), fixed := base + zext16 i,
    crossed := decide (255 < (lo8 base).toNat + i.toNat), baseHi := hi8 base }

/-- An address of page 0 (R134). -/
def zeroPage (b : Byte) : Word := wordOf 0x00 b

/-- The fetches and the pointer reads of a mode, up to the access of the operand (R133 to R137, R140, R141). -/
def address (m : MemMode) (s : State) : Target × State :=
  match m with
  | .zp b => (direct (zeroPage b), skip (skip s))
  | .zpx b => (direct (zeroPage (b + s.X)), dummyRead (zeroPage b) (skip (skip s)))
  | .zpy b => (direct (zeroPage (b + s.Y)), dummyRead (zeroPage b) (skip (skip s)))
  | .abs w => (direct w, skip (skip (skip s)))
  | .abx w => (indexedBy w s.X, skip (skip (skip s)))
  | .aby w => (indexedBy w s.Y, skip (skip (skip s)))
  | .izx b =>
    let lo := memRead (zeroPage (b + s.X)) (dummyRead (zeroPage b) (skip (skip s)))
    let hi := memRead (zeroPage (b + s.X + 1)) lo.2
    (direct (wordOf hi.1 lo.1), hi.2)
  | .izy b =>
    let lo := memRead (zeroPage b) (skip (skip s))
    let hi := memRead (zeroPage (b + 1)) lo.2
    (indexedBy (wordOf hi.1 lo.1) s.Y, hi.2)

/-- The modes with a cycle that fixes the high byte (R136 to R138, R141 to R143). -/
def fixesHigh : MemMode → Bool
  | .abx _ | .aby _ | .izy _ => true
  | .zp _ | .zpx _ | .zpy _ | .abs _ | .izx _ => false

/-- `ReadOperand(mode)` for a memory operand: a read at the unfixed address, and only on a page crossing a second read
at the right one (R133 to R136, R140, R141). -/
def readOperand (m : MemMode) (s : State) : Byte × State :=
  let t := address m s
  let r := memRead t.1.unfixed t.2
  if t.1.crossed then memRead t.1.fixed r.2 else r

/-- The state after the addressing of an RMW or Write instruction: in the modes that fix the high byte the dummy read
at the unfixed address always happens (R137, R138, R142, R143). -/
def settle (m : MemMode) (t : Target × State) : State :=
  if fixesHigh m then dummyRead t.1.unfixed t.2 else t.2

/-- `ModifyOperand(mode, f)`: read old, write old, write new (R133 to R135, R137, R140, R142, R259). -/
def modifyOperand (m : MemMode) (f : Byte → Byte) (s : State) : Byte × State :=
  let t := address m s
  let old := memRead t.1.fixed (settle m t)
  (old.1, memWrite t.1.fixed (f old.1) (memWrite t.1.fixed old.1 old.2))

/-- `WriteOperand(mode, v)` (R133 to R135, R138, R140, R143). -/
def writeOperand (m : MemMode) (v : Byte) (s : State) : State :=
  let t := address m s
  memWrite t.1.fixed v (settle m t)

/-- The write of the SHA family (45_undocumented.md R295): the value is `reg & (H + 1)`, and on a page crossing its high
address byte is the value. -/
def writeHighAnd (m : MemMode) (reg : Byte) (s : State) : State :=
  let t := address m s
  let v := reg &&& (t.1.baseHi + 1)
  memWrite (if t.1.crossed then wordOf v (lo8 t.1.unfixed) else t.1.unfixed) v (settle m t)

/-! The shapes of the instructions. -/

/-- An implied instruction (R131): the opcode fetch, a dummy read at pc, then the register operation. -/
def runImplied (op : State → State) (s : State) : Result :=
  let t := skip s
  .next (op (dummyRead t.pc t))

/-- An immediate instruction (R132): the operand is the byte after the opcode. -/
def runImm (op : Byte → State → State) (v : Byte) (s : State) : Result := .next (op v (skip (skip s)))

/-- A Read-class instruction with a memory operand. -/
def runRead (op : Byte → State → State) (m : MemMode) (s : State) : Result :=
  let r := readOperand m s
  .next (op r.1 r.2)

/-- An accumulator instruction (R131, R259). -/
def runAcc (f : Byte → Flags → Byte × Flags) (s : State) : Result :=
  runImplied (fun t => { t with A := (f t.A t.P).1, P := (f t.A t.P).2 }) s

/-- A Read-Modify-Write instruction: the new byte and the flags from the old byte, then `after` with the new byte
(R259; 45_undocumented.md section 2). -/
def runRmwThen (f : Byte → Flags → Byte × Flags) (after : Byte → State → State) (m : MemMode) (s : State) : Result :=
  let r := modifyOperand m (fun old => (f old s.P).1) s
  .next (after (f r.1 s.P).1 { r.2 with P := (f r.1 s.P).2 })

/-- A plain Read-Modify-Write instruction. -/
def runRmw (f : Byte → Flags → Byte × Flags) (m : MemMode) (s : State) : Result := runRmwThen f (fun _ t => t) m s

/-- A Write-class instruction that stores a value of the registers. -/
def runStore (value : State → Byte) (m : MemMode) (s : State) : Result := .next (writeOperand m (value s) s)

/-- An instruction of the SHA family. -/
def runStoreHigh (value : State → Byte) (m : MemMode) (s : State) : Result := .next (writeHighAnd m (value s) s)

/-- ROR, RRA and ARR exist only on a part with HAS_ROR (R113, U12, D23). -/
def onRorPart (meaning : State → Result) (s : State) : Result :=
  if s.params.hasRor then meaning s else .refused .rorAbsent

end Sys2Proof.Machine
end

