-- ==== Sys2Proof/Machine/Branch.lean ====
section
/-! DEFINITION. The eight conditional branches (41_stack_control.md R180 to R188; 40_addressing.md R139). -/

namespace Sys2Proof.Machine

/-- A taken branch, pc at the next instruction (R139): a dummy read at pc, and a second one with the old high byte when
the page changes. -/
def takeBranch (off : Byte) (s : State) : State :=
  let target := s.pc + sext16 off
  let t := dummyRead s.pc s
  let u := if hi8 target = hi8 s.pc then t else dummyRead (wordOf (hi8 s.pc) (lo8 target)) t
  { u with pc := target }

/-- The sequence of a branch (R139, R180): no flag and no register but pc is written. -/
def branch (cond : Flags → Bool) (off : Byte) (s : State) : Result :=
  let t := skip (skip s)
  .next (if cond t.P then takeBranch off t else t)

/-! One meaning per opcode. -/

/-- $10 BPL `rel`: R181, R139. -/
def execBpl (off : Byte) (s : State) : Result := branch (fun p => !p.n) off s

/-- $30 BMI `rel`: R182, R139. -/
def execBmi (off : Byte) (s : State) : Result := branch (fun p => p.n) off s

/-- $50 BVC `rel`: R183, R139. -/
def execBvc (off : Byte) (s : State) : Result := branch (fun p => !p.v) off s

/-- $70 BVS `rel`: R184, R139. -/
def execBvs (off : Byte) (s : State) : Result := branch (fun p => p.v) off s

/-- $90 BCC `rel`: R185, R139. -/
def execBcc (off : Byte) (s : State) : Result := branch (fun p => !p.c) off s

/-- $B0 BCS `rel`: R186, R139. -/
def execBcs (off : Byte) (s : State) : Result := branch (fun p => p.c) off s

/-- $D0 BNE `rel`: R187, R139. -/
def execBne (off : Byte) (s : State) : Result := branch (fun p => !p.z) off s

/-- $F0 BEQ `rel`: R188, R139. -/
def execBeq (off : Byte) (s : State) : Result := branch (fun p => p.z) off s

end Sys2Proof.Machine
end

