-- ==== Sys2Proof/Machine/Implied.lean ====
section
/-! DEFINITION. Implied-mode register and flag instructions (42_implied.md). -/

namespace Sys2Proof.Machine

/-- TAX (R200). -/
def tax (s : State) : State := { s with X := s.A, P := setNZ s.A s.P }

/-- TAY (R201). -/
def tay (s : State) : State := { s with Y := s.A, P := setNZ s.A s.P }

/-- TXA (R202). -/
def txa (s : State) : State := { s with A := s.X, P := setNZ s.X s.P }

/-- TYA (R203). -/
def tya (s : State) : State := { s with A := s.Y, P := setNZ s.Y s.P }

/-- TSX (R204). -/
def tsx (s : State) : State := { s with X := s.S, P := setNZ s.S s.P }

/-- TXS (R205): no flag is written. -/
def txs (s : State) : State := { s with S := s.X }

/-- INX (R206): C and V are not written. -/
def inx (s : State) : State := { s with X := s.X + 1, P := setNZ (s.X + 1) s.P }

/-- INY (R207). -/
def iny (s : State) : State := { s with Y := s.Y + 1, P := setNZ (s.Y + 1) s.P }

/-- DEX (R208). -/
def dex (s : State) : State := { s with X := s.X - 1, P := setNZ (s.X - 1) s.P }

/-- DEY (R209). -/
def dey (s : State) : State := { s with Y := s.Y - 1, P := setNZ (s.Y - 1) s.P }

/-- CLC (R210). -/
def clc (s : State) : State := { s with P := { s.P with c := false } }

/-- SEC (R211). -/
def sec (s : State) : State := { s with P := { s.P with c := true } }

/-- CLI (R212). -/
def cli (s : State) : State := { s with P := { s.P with i := false } }

/-- SEI (R213). -/
def sei (s : State) : State := { s with P := { s.P with i := true } }

/-- CLV (R214). -/
def clv (s : State) : State := { s with P := { s.P with v := false } }

/-- CLD (R215). -/
def cld (s : State) : State := { s with P := { s.P with d := false } }

/-- SED (R216). -/
def sed (s : State) : State := { s with P := { s.P with d := true } }

/-! One meaning per opcode. -/

/-- $18 CLC `imp`: R210, R131. -/
def execClc (s : State) : Result := runImplied clc s

/-- $38 SEC `imp`: R211, R131. -/
def execSec (s : State) : Result := runImplied sec s

/-- $58 CLI `imp`: R212, R131. -/
def execCli (s : State) : Result := runImplied cli s

/-- $78 SEI `imp`: R213, R131. -/
def execSei (s : State) : Result := runImplied sei s

/-- $88 DEY `imp`: R209, R131. -/
def execDey (s : State) : Result := runImplied dey s

/-- $8A TXA `imp`: R202, R131. -/
def execTxa (s : State) : Result := runImplied txa s

/-- $98 TYA `imp`: R203, R131. -/
def execTya (s : State) : Result := runImplied tya s

/-- $9A TXS `imp`: R205, R131. -/
def execTxs (s : State) : Result := runImplied txs s

/-- $A8 TAY `imp`: R201, R131. -/
def execTay (s : State) : Result := runImplied tay s

/-- $AA TAX `imp`: R200, R131. -/
def execTax (s : State) : Result := runImplied tax s

/-- $B8 CLV `imp`: R214, R131. -/
def execClv (s : State) : Result := runImplied clv s

/-- $BA TSX `imp`: R204, R131. -/
def execTsx (s : State) : Result := runImplied tsx s

/-- $C8 INY `imp`: R207, R131. -/
def execIny (s : State) : Result := runImplied iny s

/-- $CA DEX `imp`: R208, R131. -/
def execDex (s : State) : Result := runImplied dex s

/-- $D8 CLD `imp`: R215, R131. -/
def execCld (s : State) : Result := runImplied cld s

/-- $E8 INX `imp`: R206, R131. -/
def execInx (s : State) : Result := runImplied inx s

/-- $EA NOP `imp`: R217, R131. -/
def execNop (s : State) : Result := runImplied (fun t => t) s

/-- $F8 SED `imp`: R216, R131. -/
def execSed (s : State) : Result := runImplied sed s

end Sys2Proof.Machine
end

