-- ==== Sys2Proof/Machine/Read.lean ====
section
/-! DEFINITION. Loads, logic, arithmetic, compares and BIT (43_read.md): the operation of each mnemonic on the operand
byte, then one meaning per opcode. -/

namespace Sys2Proof.Machine

/-- LDA (R230). -/
def lda (m : Byte) (s : State) : State := { s with A := m, P := setNZ m s.P }

/-- LDX (R231). -/
def ldx (m : Byte) (s : State) : State := { s with X := m, P := setNZ m s.P }

/-- LDY (R232). -/
def ldy (m : Byte) (s : State) : State := { s with Y := m, P := setNZ m s.P }

/-- ORA (R233). -/
def ora (m : Byte) (s : State) : State := { s with A := s.A ||| m, P := setNZ (s.A ||| m) s.P }

/-- AND (R234). -/
def andA (m : Byte) (s : State) : State := { s with A := s.A &&& m, P := setNZ (s.A &&& m) s.P }

/-- EOR (R235). -/
def eor (m : Byte) (s : State) : State := { s with A := s.A ^^^ m, P := setNZ (s.A ^^^ m) s.P }

/-- ADC (R236): binary or decimal as P.D says. -/
def adc (m : Byte) (s : State) : State :=
  let r := adcSum s.A m s.P
  { s with A := r.val, P := setSum r s.P }

/-- SBC (R237): binary or decimal as P.D says. -/
def sbc (m : Byte) (s : State) : State :=
  let r := sbcSum s.A m s.P
  { s with A := r.val, P := setSum r s.P }

/-- CMP (R242). -/
def cmp (m : Byte) (s : State) : State := { s with P := compareFlags s.A m s.P }

/-- CPX (R243). -/
def cpx (m : Byte) (s : State) : State := { s with P := compareFlags s.X m s.P }

/-- CPY (R244). -/
def cpy (m : Byte) (s : State) : State := { s with P := compareFlags s.Y m s.P }

/-- BIT (R245). -/
def bitTest (m : Byte) (s : State) : State := { s with P := bitFlags s.A m s.P }

/-! One meaning per opcode. -/

/-- $01 ORA `izx`: R233, R140. -/
def execOraIzx (b : Byte) (s : State) : Result := runRead ora (.izx b) s

/-- $05 ORA `zp`: R233, R134. -/
def execOraZp (b : Byte) (s : State) : Result := runRead ora (.zp b) s

/-- $09 ORA `imm`: R233, R132. -/
def execOraImm (v : Byte) (s : State) : Result := runImm ora v s

/-- $0D ORA `abs`: R233, R133. -/
def execOraAbs (w : Word) (s : State) : Result := runRead ora (.abs w) s

/-- $11 ORA `izy`: R233, R141. -/
def execOraIzy (b : Byte) (s : State) : Result := runRead ora (.izy b) s

/-- $15 ORA `zpx`: R233, R135. -/
def execOraZpx (b : Byte) (s : State) : Result := runRead ora (.zpx b) s

/-- $19 ORA `aby`: R233, R136. -/
def execOraAby (w : Word) (s : State) : Result := runRead ora (.aby w) s

/-- $1D ORA `abx`: R233, R136. -/
def execOraAbx (w : Word) (s : State) : Result := runRead ora (.abx w) s

/-- $21 AND `izx`: R234, R140. -/
def execAndIzx (b : Byte) (s : State) : Result := runRead andA (.izx b) s

/-- $25 AND `zp`: R234, R134. -/
def execAndZp (b : Byte) (s : State) : Result := runRead andA (.zp b) s

/-- $29 AND `imm`: R234, R132. -/
def execAndImm (v : Byte) (s : State) : Result := runImm andA v s

/-- $2D AND `abs`: R234, R133. -/
def execAndAbs (w : Word) (s : State) : Result := runRead andA (.abs w) s

/-- $31 AND `izy`: R234, R141. -/
def execAndIzy (b : Byte) (s : State) : Result := runRead andA (.izy b) s

/-- $35 AND `zpx`: R234, R135. -/
def execAndZpx (b : Byte) (s : State) : Result := runRead andA (.zpx b) s

/-- $39 AND `aby`: R234, R136. -/
def execAndAby (w : Word) (s : State) : Result := runRead andA (.aby w) s

/-- $3D AND `abx`: R234, R136. -/
def execAndAbx (w : Word) (s : State) : Result := runRead andA (.abx w) s

/-- $24 BIT `zp`: R245, R134. -/
def execBitZp (b : Byte) (s : State) : Result := runRead bitTest (.zp b) s

/-- $2C BIT `abs`: R245, R133. -/
def execBitAbs (w : Word) (s : State) : Result := runRead bitTest (.abs w) s

/-- $41 EOR `izx`: R235, R140. -/
def execEorIzx (b : Byte) (s : State) : Result := runRead eor (.izx b) s

/-- $45 EOR `zp`: R235, R134. -/
def execEorZp (b : Byte) (s : State) : Result := runRead eor (.zp b) s

/-- $49 EOR `imm`: R235, R132. -/
def execEorImm (v : Byte) (s : State) : Result := runImm eor v s

/-- $4D EOR `abs`: R235, R133. -/
def execEorAbs (w : Word) (s : State) : Result := runRead eor (.abs w) s

/-- $51 EOR `izy`: R235, R141. -/
def execEorIzy (b : Byte) (s : State) : Result := runRead eor (.izy b) s

/-- $55 EOR `zpx`: R235, R135. -/
def execEorZpx (b : Byte) (s : State) : Result := runRead eor (.zpx b) s

/-- $59 EOR `aby`: R235, R136. -/
def execEorAby (w : Word) (s : State) : Result := runRead eor (.aby w) s

/-- $5D EOR `abx`: R235, R136. -/
def execEorAbx (w : Word) (s : State) : Result := runRead eor (.abx w) s

/-- $61 ADC `izx`: R236, R140. -/
def execAdcIzx (b : Byte) (s : State) : Result := runRead adc (.izx b) s

/-- $65 ADC `zp`: R236, R134. -/
def execAdcZp (b : Byte) (s : State) : Result := runRead adc (.zp b) s

/-- $69 ADC `imm`: R236, R132. -/
def execAdcImm (v : Byte) (s : State) : Result := runImm adc v s

/-- $6D ADC `abs`: R236, R133. -/
def execAdcAbs (w : Word) (s : State) : Result := runRead adc (.abs w) s

/-- $71 ADC `izy`: R236, R141. -/
def execAdcIzy (b : Byte) (s : State) : Result := runRead adc (.izy b) s

/-- $75 ADC `zpx`: R236, R135. -/
def execAdcZpx (b : Byte) (s : State) : Result := runRead adc (.zpx b) s

/-- $79 ADC `aby`: R236, R136. -/
def execAdcAby (w : Word) (s : State) : Result := runRead adc (.aby w) s

/-- $7D ADC `abx`: R236, R136. -/
def execAdcAbx (w : Word) (s : State) : Result := runRead adc (.abx w) s

/-- $A0 LDY `imm`: R232, R132. -/
def execLdyImm (v : Byte) (s : State) : Result := runImm ldy v s

/-- $A4 LDY `zp`: R232, R134. -/
def execLdyZp (b : Byte) (s : State) : Result := runRead ldy (.zp b) s

/-- $AC LDY `abs`: R232, R133. -/
def execLdyAbs (w : Word) (s : State) : Result := runRead ldy (.abs w) s

/-- $B4 LDY `zpx`: R232, R135. -/
def execLdyZpx (b : Byte) (s : State) : Result := runRead ldy (.zpx b) s

/-- $BC LDY `abx`: R232, R136. -/
def execLdyAbx (w : Word) (s : State) : Result := runRead ldy (.abx w) s

/-- $A1 LDA `izx`: R230, R140. -/
def execLdaIzx (b : Byte) (s : State) : Result := runRead lda (.izx b) s

/-- $A5 LDA `zp`: R230, R134. -/
def execLdaZp (b : Byte) (s : State) : Result := runRead lda (.zp b) s

/-- $A9 LDA `imm`: R230, R132. -/
def execLdaImm (v : Byte) (s : State) : Result := runImm lda v s

/-- $AD LDA `abs`: R230, R133. -/
def execLdaAbs (w : Word) (s : State) : Result := runRead lda (.abs w) s

/-- $B1 LDA `izy`: R230, R141. -/
def execLdaIzy (b : Byte) (s : State) : Result := runRead lda (.izy b) s

/-- $B5 LDA `zpx`: R230, R135. -/
def execLdaZpx (b : Byte) (s : State) : Result := runRead lda (.zpx b) s

/-- $B9 LDA `aby`: R230, R136. -/
def execLdaAby (w : Word) (s : State) : Result := runRead lda (.aby w) s

/-- $BD LDA `abx`: R230, R136. -/
def execLdaAbx (w : Word) (s : State) : Result := runRead lda (.abx w) s

/-- $A2 LDX `imm`: R231, R132. -/
def execLdxImm (v : Byte) (s : State) : Result := runImm ldx v s

/-- $A6 LDX `zp`: R231, R134. -/
def execLdxZp (b : Byte) (s : State) : Result := runRead ldx (.zp b) s

/-- $AE LDX `abs`: R231, R133. -/
def execLdxAbs (w : Word) (s : State) : Result := runRead ldx (.abs w) s

/-- $B6 LDX `zpy`: R231, R135. -/
def execLdxZpy (b : Byte) (s : State) : Result := runRead ldx (.zpy b) s

/-- $BE LDX `aby`: R231, R136. -/
def execLdxAby (w : Word) (s : State) : Result := runRead ldx (.aby w) s

/-- $C0 CPY `imm`: R244, R132. -/
def execCpyImm (v : Byte) (s : State) : Result := runImm cpy v s

/-- $C4 CPY `zp`: R244, R134. -/
def execCpyZp (b : Byte) (s : State) : Result := runRead cpy (.zp b) s

/-- $CC CPY `abs`: R244, R133. -/
def execCpyAbs (w : Word) (s : State) : Result := runRead cpy (.abs w) s

/-- $C1 CMP `izx`: R242, R140. -/
def execCmpIzx (b : Byte) (s : State) : Result := runRead cmp (.izx b) s

/-- $C5 CMP `zp`: R242, R134. -/
def execCmpZp (b : Byte) (s : State) : Result := runRead cmp (.zp b) s

/-- $C9 CMP `imm`: R242, R132. -/
def execCmpImm (v : Byte) (s : State) : Result := runImm cmp v s

/-- $CD CMP `abs`: R242, R133. -/
def execCmpAbs (w : Word) (s : State) : Result := runRead cmp (.abs w) s

/-- $D1 CMP `izy`: R242, R141. -/
def execCmpIzy (b : Byte) (s : State) : Result := runRead cmp (.izy b) s

/-- $D5 CMP `zpx`: R242, R135. -/
def execCmpZpx (b : Byte) (s : State) : Result := runRead cmp (.zpx b) s

/-- $D9 CMP `aby`: R242, R136. -/
def execCmpAby (w : Word) (s : State) : Result := runRead cmp (.aby w) s

/-- $DD CMP `abx`: R242, R136. -/
def execCmpAbx (w : Word) (s : State) : Result := runRead cmp (.abx w) s

/-- $E0 CPX `imm`: R243, R132. -/
def execCpxImm (v : Byte) (s : State) : Result := runImm cpx v s

/-- $E4 CPX `zp`: R243, R134. -/
def execCpxZp (b : Byte) (s : State) : Result := runRead cpx (.zp b) s

/-- $EC CPX `abs`: R243, R133. -/
def execCpxAbs (w : Word) (s : State) : Result := runRead cpx (.abs w) s

/-- $E1 SBC `izx`: R237, R140. -/
def execSbcIzx (b : Byte) (s : State) : Result := runRead sbc (.izx b) s

/-- $E5 SBC `zp`: R237, R134. -/
def execSbcZp (b : Byte) (s : State) : Result := runRead sbc (.zp b) s

/-- $E9 SBC `imm`: R237, R132. -/
def execSbcImm (v : Byte) (s : State) : Result := runImm sbc v s

/-- $ED SBC `abs`: R237, R133. -/
def execSbcAbs (w : Word) (s : State) : Result := runRead sbc (.abs w) s

/-- $F1 SBC `izy`: R237, R141. -/
def execSbcIzy (b : Byte) (s : State) : Result := runRead sbc (.izy b) s

/-- $F5 SBC `zpx`: R237, R135. -/
def execSbcZpx (b : Byte) (s : State) : Result := runRead sbc (.zpx b) s

/-- $F9 SBC `aby`: R237, R136. -/
def execSbcAby (w : Word) (s : State) : Result := runRead sbc (.aby w) s

/-- $FD SBC `abx`: R237, R136. -/
def execSbcAbx (w : Word) (s : State) : Result := runRead sbc (.abx w) s

end Sys2Proof.Machine
end

