-- ==== Sys2Proof/Machine/RmwStore.lean ====
section
/-! DEFINITION. Shifts, rotates, INC, DEC and the stores (44_rmw_write.md); the byte functions are in Flags.lean, the
three data accesses of an RMW instruction in `modifyOperand`. -/

namespace Sys2Proof.Machine

/-! One meaning per opcode. -/

/-- $06 ASL `zp`: R250, R134. -/
def execAslZp (b : Byte) (s : State) : Result := runRmw asl (.zp b) s

/-- $0A ASL `acc`: R250, R131. -/
def execAslAcc (s : State) : Result := runAcc asl s

/-- $0E ASL `abs`: R250, R133. -/
def execAslAbs (w : Word) (s : State) : Result := runRmw asl (.abs w) s

/-- $16 ASL `zpx`: R250, R135. -/
def execAslZpx (b : Byte) (s : State) : Result := runRmw asl (.zpx b) s

/-- $1E ASL `abx`: R250, R137. -/
def execAslAbx (w : Word) (s : State) : Result := runRmw asl (.abx w) s

/-- $26 ROL `zp`: R252, R134. -/
def execRolZp (b : Byte) (s : State) : Result := runRmw rol (.zp b) s

/-- $2A ROL `acc`: R252, R131. -/
def execRolAcc (s : State) : Result := runAcc rol s

/-- $2E ROL `abs`: R252, R133. -/
def execRolAbs (w : Word) (s : State) : Result := runRmw rol (.abs w) s

/-- $36 ROL `zpx`: R252, R135. -/
def execRolZpx (b : Byte) (s : State) : Result := runRmw rol (.zpx b) s

/-- $3E ROL `abx`: R252, R137. -/
def execRolAbx (w : Word) (s : State) : Result := runRmw rol (.abx w) s

/-- $46 LSR `zp`: R251, R134. -/
def execLsrZp (b : Byte) (s : State) : Result := runRmw lsr (.zp b) s

/-- $4A LSR `acc`: R251, R131. -/
def execLsrAcc (s : State) : Result := runAcc lsr s

/-- $4E LSR `abs`: R251, R133. -/
def execLsrAbs (w : Word) (s : State) : Result := runRmw lsr (.abs w) s

/-- $56 LSR `zpx`: R251, R135. -/
def execLsrZpx (b : Byte) (s : State) : Result := runRmw lsr (.zpx b) s

/-- $5E LSR `abx`: R251, R137. -/
def execLsrAbx (w : Word) (s : State) : Result := runRmw lsr (.abx w) s

/-- $66 ROR `zp`: R253, R134. -/
def execRorZp (b : Byte) (s : State) : Result := onRorPart (runRmw ror (.zp b)) s

/-- $6A ROR `acc`: R253, R131. -/
def execRorAcc (s : State) : Result := onRorPart (runAcc ror) s

/-- $6E ROR `abs`: R253, R133. -/
def execRorAbs (w : Word) (s : State) : Result := onRorPart (runRmw ror (.abs w)) s

/-- $76 ROR `zpx`: R253, R135. -/
def execRorZpx (b : Byte) (s : State) : Result := onRorPart (runRmw ror (.zpx b)) s

/-- $7E ROR `abx`: R253, R137. -/
def execRorAbx (w : Word) (s : State) : Result := onRorPart (runRmw ror (.abx w)) s

/-- $81 STA `izx`: R256, R140. -/
def execStaIzx (b : Byte) (s : State) : Result := runStore (fun t => t.A) (.izx b) s

/-- $85 STA `zp`: R256, R134. -/
def execStaZp (b : Byte) (s : State) : Result := runStore (fun t => t.A) (.zp b) s

/-- $8D STA `abs`: R256, R133. -/
def execStaAbs (w : Word) (s : State) : Result := runStore (fun t => t.A) (.abs w) s

/-- $91 STA `izy`: R256, R143. -/
def execStaIzy (b : Byte) (s : State) : Result := runStore (fun t => t.A) (.izy b) s

/-- $95 STA `zpx`: R256, R135. -/
def execStaZpx (b : Byte) (s : State) : Result := runStore (fun t => t.A) (.zpx b) s

/-- $99 STA `aby`: R256, R138. -/
def execStaAby (w : Word) (s : State) : Result := runStore (fun t => t.A) (.aby w) s

/-- $9D STA `abx`: R256, R138. -/
def execStaAbx (w : Word) (s : State) : Result := runStore (fun t => t.A) (.abx w) s

/-- $84 STY `zp`: R258, R134. -/
def execStyZp (b : Byte) (s : State) : Result := runStore (fun t => t.Y) (.zp b) s

/-- $8C STY `abs`: R258, R133. -/
def execStyAbs (w : Word) (s : State) : Result := runStore (fun t => t.Y) (.abs w) s

/-- $94 STY `zpx`: R258, R135. -/
def execStyZpx (b : Byte) (s : State) : Result := runStore (fun t => t.Y) (.zpx b) s

/-- $86 STX `zp`: R257, R134. -/
def execStxZp (b : Byte) (s : State) : Result := runStore (fun t => t.X) (.zp b) s

/-- $8E STX `abs`: R257, R133. -/
def execStxAbs (w : Word) (s : State) : Result := runStore (fun t => t.X) (.abs w) s

/-- $96 STX `zpy`: R257, R135. -/
def execStxZpy (b : Byte) (s : State) : Result := runStore (fun t => t.X) (.zpy b) s

/-- $C6 DEC `zp`: R255, R134. -/
def execDecZp (b : Byte) (s : State) : Result := runRmw dec (.zp b) s

/-- $CE DEC `abs`: R255, R133. -/
def execDecAbs (w : Word) (s : State) : Result := runRmw dec (.abs w) s

/-- $D6 DEC `zpx`: R255, R135. -/
def execDecZpx (b : Byte) (s : State) : Result := runRmw dec (.zpx b) s

/-- $DE DEC `abx`: R255, R137. -/
def execDecAbx (w : Word) (s : State) : Result := runRmw dec (.abx w) s

/-- $E6 INC `zp`: R254, R134. -/
def execIncZp (b : Byte) (s : State) : Result := runRmw inc (.zp b) s

/-- $EE INC `abs`: R254, R133. -/
def execIncAbs (w : Word) (s : State) : Result := runRmw inc (.abs w) s

/-- $F6 INC `zpx`: R254, R135. -/
def execIncZpx (b : Byte) (s : State) : Result := runRmw inc (.zpx b) s

/-- $FE INC `abx`: R254, R137. -/
def execIncAbx (w : Word) (s : State) : Result := runRmw inc (.abx w) s

end Sys2Proof.Machine
end

