-- ==== Sys2Proof/Machine/StackControl.lean ====
section
/-! DEFINITION. Stack, subroutine and jump instructions (41_stack_control.md). -/

namespace Sys2Proof.Machine

/-- RTS after the two implied cycles (R172): a dummy stack read, pc pulled low byte first, a dummy read at the pulled
address, and pc incremented past it. -/
def rts (s : State) : State :=
  let lo := pull (dummyRead (stackAddr s) s)
  let hi := pull lo.2
  let t := dummyRead (wordOf hi.1 lo.1) hi.2
  { t with pc := wordOf hi.1 lo.1 + 1 }

/-- PHA after the two implied cycles (R173). -/
def pha (s : State) : State := push s.A s

/-- PHP after the two implied cycles (R174): bits 4 and 5 of the pushed byte are ones. -/
def php (s : State) : State := push (statusByte true s.P) s

/-- PLA after the two implied cycles (R175): a dummy stack read, then A pulled. -/
def pla (s : State) : State :=
  let r := pull (dummyRead (stackAddr s) s)
  { r.2 with A := r.1, P := setNZ r.1 r.2.P }

/-- PLP after the two implied cycles (R176). -/
def plp (s : State) : State :=
  let r := pull (dummyRead (stackAddr s) s)
  { r.2 with P := flagsOfByte r.1 }

/-- JSR (R177): the low byte is fetched, a dummy read of the stack top, the address of the third byte is pushed, and
only then is the high byte read at that address: if the pushes overwrote it, the overwritten value is used. -/
def jsr (w : Word) (s : State) : State :=
  let t := skip (skip s)
  let u := dummyRead (stackAddr t) t
  let r := memRead t.pc (push (lo8 t.pc) (push (hi8 t.pc) u))
  { r.2 with pc := wordOf r.1 (lo8 w) }

/-- JMP absolute (R178): three cycles. -/
def jumpAbsolute (w : Word) (s : State) : State := { skip (skip (skip s)) with pc := w }

/-- JMP indirect (R179, R144): the high byte comes from the same page as the low byte. -/
def jumpIndirect (p : Word) (s : State) : State :=
  jumpThrough p (wordOf (hi8 p) (lo8 p + 1)) (skip (skip (skip s)))

/-! One meaning per opcode. -/

/-- $00 BRK `imp`: R170. -/
def execBrk (s : State) : Result := .next (brkSequence (skip (skip s)))

/-- $08 PHP `imp`: R174. -/
def execPhp (s : State) : Result := runImplied php s

/-- $20 JSR `abs`: R177. -/
def execJsr (w : Word) (s : State) : Result := .next (jsr w s)

/-- $28 PLP `imp`: R176. -/
def execPlp (s : State) : Result := runImplied plp s

/-- $40 RTI `imp`: R171. -/
def execRti (s : State) : Result := runImplied returnFromException s

/-- $48 PHA `imp`: R173. -/
def execPha (s : State) : Result := runImplied pha s

/-- $4C JMP `abs`: R178, R133. -/
def execJmpAbs (w : Word) (s : State) : Result := .next (jumpAbsolute w s)

/-- $6C JMP `ind`: R179, R144. -/
def execJmpInd (p : Word) (s : State) : Result := .next (jumpIndirect p s)

/-- $60 RTS `imp`: R172. -/
def execRts (s : State) : Result := runImplied rts s

/-- $68 PLA `imp`: R175. -/
def execPla (s : State) : Result := runImplied pla s

end Sys2Proof.Machine
end

