-- ==== Sys2Proof/Machine/Undocumented.lean ====
section
/-! DEFINITION. The 105 undocumented opcodes (45_undocumented.md). The operations of SLO, RLA, SRE, RRA, DCP, ISB, ANC,
ASR, LAS and SBC $EB are the spec's general-knowledge ones: PRESUMED (D22; log 20). -/

namespace Sys2Proof.Machine

/-- LAX (R276). -/
def lax (m : Byte) (s : State) : State := { s with A := m, X := m, P := setNZ m s.P }

/-- LAS (R299). -/
def las (m : Byte) (s : State) : State :=
  let r := m &&& s.S
  { s with A := r, X := r, S := r, P := setNZ r s.P }

/-- ANC (R279): C copies bit 7 of the result. -/
def anc (m : Byte) (s : State) : State :=
  let r := s.A &&& m
  { s with A := r, P := { setNZ r s.P with c := r.getLsbD 7 } }

/-- ASR (R280): AND, then LSR of the accumulator. -/
def asr (m : Byte) (s : State) : State :=
  let r := lsr (s.A &&& m) s.P
  { s with A := r.1, P := r.2 }

/-- ARR (R281): binary or decimal as P.D says. -/
def arr (m : Byte) (s : State) : State :=
  let r := if s.P.d then arrDecimal (s.A &&& m) s.P else arrBinary (s.A &&& m) s.P
  { s with A := r.1, P := r.2 }

/-- ANE (R291, D27): the constant is drawn at this execution (log 21). -/
def ane (m : Byte) (s : State) : State :=
  let r := aneValue (Config.aneConst (Config.aneDraw s.tick)) s.A s.X m
  { s with A := r, P := setNZ r s.P }

/-- The value LXA loads under each of the two accounts (R292). -/
def lxaValue (m : Byte) (s : State) : Byte :=
  match s.params.lxaVariant with
  | .lehti => aneValue (Config.aneConst (Config.aneDraw s.tick)) s.A s.X m
  | .alternate => s.A &&& m

/-- LXA (R292, D27). -/
def lxa (m : Byte) (s : State) : State :=
  let r := lxaValue m s
  { s with A := r, X := r, P := setNZ r s.P }

/-- SBX (R293): the comparison logic; V and the incoming C and D play no part. -/
def sbx (m : Byte) (s : State) : State :=
  let t := s.A &&& s.X
  { s with X := t - m, P := compareFlags t m s.P }

/-- SHS (R298): S takes A & X, and the store is SHA's. -/
def runShs (m : MemMode) (s : State) : Result :=
  .next { writeHighAnd m (s.A &&& s.X) s with S := s.A &&& s.X }

/-- The operand of an undocumented NOP is read and thrown away (R300). -/
def discard (_ : Byte) (s : State) : State := s

/-- Whether $82, $C2 or $E2 jams at this execution (R301, D15; log 25). -/
def rareJam (s : State) : Bool := s.params.rareJam && Config.rareJamDraw s.tick

/-- $82, $C2, $E2 (R301): a two-byte NOP, or a jam, after the two reads every instruction makes (R130, R302). -/
def rareJamNop (_ : Byte) (s : State) : Result :=
  let t := skip s
  .next (if rareJam t then jam (dummyRead t.pc t) else skip t)

/-! One meaning per opcode. -/

/-- $02 JAM `imp`: R302. -/
def execJam02 (s : State) : Result := runImplied jam s

/-- $12 JAM `imp`: R302. -/
def execJam12 (s : State) : Result := runImplied jam s

/-- $22 JAM `imp`: R302. -/
def execJam22 (s : State) : Result := runImplied jam s

/-- $32 JAM `imp`: R302. -/
def execJam32 (s : State) : Result := runImplied jam s

/-- $42 JAM `imp`: R302. -/
def execJam42 (s : State) : Result := runImplied jam s

/-- $52 JAM `imp`: R302. -/
def execJam52 (s : State) : Result := runImplied jam s

/-- $62 JAM `imp`: R302. -/
def execJam62 (s : State) : Result := runImplied jam s

/-- $72 JAM `imp`: R302. -/
def execJam72 (s : State) : Result := runImplied jam s

/-- $92 JAM `imp`: R302. -/
def execJam92 (s : State) : Result := runImplied jam s

/-- $B2 JAM `imp`: R302. -/
def execJamB2 (s : State) : Result := runImplied jam s

/-- $D2 JAM `imp`: R302. -/
def execJamD2 (s : State) : Result := runImplied jam s

/-- $F2 JAM `imp`: R302. -/
def execJamF2 (s : State) : Result := runImplied jam s

/-- $03 SLO `izx`: R271, R140. -/
def execSloIzx (b : Byte) (s : State) : Result := runRmwThen asl ora (.izx b) s

/-- $07 SLO `zp`: R271, R134. -/
def execSloZp (b : Byte) (s : State) : Result := runRmwThen asl ora (.zp b) s

/-- $0F SLO `abs`: R271, R133. -/
def execSloAbs (w : Word) (s : State) : Result := runRmwThen asl ora (.abs w) s

/-- $13 SLO `izy`: R271, R142. -/
def execSloIzy (b : Byte) (s : State) : Result := runRmwThen asl ora (.izy b) s

/-- $17 SLO `zpx`: R271, R135. -/
def execSloZpx (b : Byte) (s : State) : Result := runRmwThen asl ora (.zpx b) s

/-- $1B SLO `aby`: R271, R137. -/
def execSloAby (w : Word) (s : State) : Result := runRmwThen asl ora (.aby w) s

/-- $1F SLO `abx`: R271, R137. -/
def execSloAbx (w : Word) (s : State) : Result := runRmwThen asl ora (.abx w) s

/-- $04 NOP `zp`: R300, R134. -/
def execNopZp04 (b : Byte) (s : State) : Result := runRead discard (.zp b) s

/-- $0C NOP `abs`: R300, R133. -/
def execNopAbs0C (w : Word) (s : State) : Result := runRead discard (.abs w) s

/-- $14 NOP `zpx`: R300, R135. -/
def execNopZpx14 (b : Byte) (s : State) : Result := runRead discard (.zpx b) s

/-- $1A NOP `imp`: R300, R131. -/
def execNopImp1A (s : State) : Result := runImplied (fun t => t) s

/-- $1C NOP `abx`: R300, R136. -/
def execNopAbx1C (w : Word) (s : State) : Result := runRead discard (.abx w) s

/-- $34 NOP `zpx`: R300, R135. -/
def execNopZpx34 (b : Byte) (s : State) : Result := runRead discard (.zpx b) s

/-- $3A NOP `imp`: R300, R131. -/
def execNopImp3A (s : State) : Result := runImplied (fun t => t) s

/-- $3C NOP `abx`: R300, R136. -/
def execNopAbx3C (w : Word) (s : State) : Result := runRead discard (.abx w) s

/-- $44 NOP `zp`: R300, R134. -/
def execNopZp44 (b : Byte) (s : State) : Result := runRead discard (.zp b) s

/-- $54 NOP `zpx`: R300, R135. -/
def execNopZpx54 (b : Byte) (s : State) : Result := runRead discard (.zpx b) s

/-- $5A NOP `imp`: R300, R131. -/
def execNopImp5A (s : State) : Result := runImplied (fun t => t) s

/-- $5C NOP `abx`: R300, R136. -/
def execNopAbx5C (w : Word) (s : State) : Result := runRead discard (.abx w) s

/-- $64 NOP `zp`: R300, R134. -/
def execNopZp64 (b : Byte) (s : State) : Result := runRead discard (.zp b) s

/-- $74 NOP `zpx`: R300, R135. -/
def execNopZpx74 (b : Byte) (s : State) : Result := runRead discard (.zpx b) s

/-- $7A NOP `imp`: R300, R131. -/
def execNopImp7A (s : State) : Result := runImplied (fun t => t) s

/-- $7C NOP `abx`: R300, R136. -/
def execNopAbx7C (w : Word) (s : State) : Result := runRead discard (.abx w) s

/-- $80 NOP `imm`: R300, R132. -/
def execNopImm80 (v : Byte) (s : State) : Result := runImm discard v s

/-- $82 NOP `imm`: R301, R132. -/
def execNopImm82 (v : Byte) (s : State) : Result := rareJamNop v s

/-- $89 NOP `imm`: R300, R132. -/
def execNopImm89 (v : Byte) (s : State) : Result := runImm discard v s

/-- $C2 NOP `imm`: R301, R132. -/
def execNopImmC2 (v : Byte) (s : State) : Result := rareJamNop v s

/-- $D4 NOP `zpx`: R300, R135. -/
def execNopZpxD4 (b : Byte) (s : State) : Result := runRead discard (.zpx b) s

/-- $DA NOP `imp`: R300, R131. -/
def execNopImpDA (s : State) : Result := runImplied (fun t => t) s

/-- $DC NOP `abx`: R300, R136. -/
def execNopAbxDC (w : Word) (s : State) : Result := runRead discard (.abx w) s

/-- $E2 NOP `imm`: R301, R132. -/
def execNopImmE2 (v : Byte) (s : State) : Result := rareJamNop v s

/-- $F4 NOP `zpx`: R300, R135. -/
def execNopZpxF4 (b : Byte) (s : State) : Result := runRead discard (.zpx b) s

/-- $FA NOP `imp`: R300, R131. -/
def execNopImpFA (s : State) : Result := runImplied (fun t => t) s

/-- $FC NOP `abx`: R300, R136. -/
def execNopAbxFC (w : Word) (s : State) : Result := runRead discard (.abx w) s

/-- $0B ANC `imm`: R279, R132. -/
def execAncImm0B (v : Byte) (s : State) : Result := runImm anc v s

/-- $2B ANC `imm`: R279, R132. -/
def execAncImm2B (v : Byte) (s : State) : Result := runImm anc v s

/-- $23 RLA `izx`: R272, R140. -/
def execRlaIzx (b : Byte) (s : State) : Result := runRmwThen rol andA (.izx b) s

/-- $27 RLA `zp`: R272, R134. -/
def execRlaZp (b : Byte) (s : State) : Result := runRmwThen rol andA (.zp b) s

/-- $2F RLA `abs`: R272, R133. -/
def execRlaAbs (w : Word) (s : State) : Result := runRmwThen rol andA (.abs w) s

/-- $33 RLA `izy`: R272, R142. -/
def execRlaIzy (b : Byte) (s : State) : Result := runRmwThen rol andA (.izy b) s

/-- $37 RLA `zpx`: R272, R135. -/
def execRlaZpx (b : Byte) (s : State) : Result := runRmwThen rol andA (.zpx b) s

/-- $3B RLA `aby`: R272, R137. -/
def execRlaAby (w : Word) (s : State) : Result := runRmwThen rol andA (.aby w) s

/-- $3F RLA `abx`: R272, R137. -/
def execRlaAbx (w : Word) (s : State) : Result := runRmwThen rol andA (.abx w) s

/-- $43 SRE `izx`: R273, R140. -/
def execSreIzx (b : Byte) (s : State) : Result := runRmwThen lsr eor (.izx b) s

/-- $47 SRE `zp`: R273, R134. -/
def execSreZp (b : Byte) (s : State) : Result := runRmwThen lsr eor (.zp b) s

/-- $4F SRE `abs`: R273, R133. -/
def execSreAbs (w : Word) (s : State) : Result := runRmwThen lsr eor (.abs w) s

/-- $53 SRE `izy`: R273, R142. -/
def execSreIzy (b : Byte) (s : State) : Result := runRmwThen lsr eor (.izy b) s

/-- $57 SRE `zpx`: R273, R135. -/
def execSreZpx (b : Byte) (s : State) : Result := runRmwThen lsr eor (.zpx b) s

/-- $5B SRE `aby`: R273, R137. -/
def execSreAby (w : Word) (s : State) : Result := runRmwThen lsr eor (.aby w) s

/-- $5F SRE `abx`: R273, R137. -/
def execSreAbx (w : Word) (s : State) : Result := runRmwThen lsr eor (.abx w) s

/-- $4B ASR `imm`: R280, R132. -/
def execAsrImm (v : Byte) (s : State) : Result := runImm asr v s

/-- $63 RRA `izx`: R274, R140. -/
def execRraIzx (b : Byte) (s : State) : Result := onRorPart (runRmwThen ror adc (.izx b)) s

/-- $67 RRA `zp`: R274, R134. -/
def execRraZp (b : Byte) (s : State) : Result := onRorPart (runRmwThen ror adc (.zp b)) s

/-- $6F RRA `abs`: R274, R133. -/
def execRraAbs (w : Word) (s : State) : Result := onRorPart (runRmwThen ror adc (.abs w)) s

/-- $73 RRA `izy`: R274, R142. -/
def execRraIzy (b : Byte) (s : State) : Result := onRorPart (runRmwThen ror adc (.izy b)) s

/-- $77 RRA `zpx`: R274, R135. -/
def execRraZpx (b : Byte) (s : State) : Result := onRorPart (runRmwThen ror adc (.zpx b)) s

/-- $7B RRA `aby`: R274, R137. -/
def execRraAby (w : Word) (s : State) : Result := onRorPart (runRmwThen ror adc (.aby w)) s

/-- $7F RRA `abx`: R274, R137. -/
def execRraAbx (w : Word) (s : State) : Result := onRorPart (runRmwThen ror adc (.abx w)) s

/-- $6B ARR `imm`: R281, R132. -/
def execArrImm (v : Byte) (s : State) : Result := onRorPart (runImm arr v) s

/-- $83 SAX `izx`: R275, R140. -/
def execSaxIzx (b : Byte) (s : State) : Result := runStore (fun t => t.A &&& t.X) (.izx b) s

/-- $87 SAX `zp`: R275, R134. -/
def execSaxZp (b : Byte) (s : State) : Result := runStore (fun t => t.A &&& t.X) (.zp b) s

/-- $8F SAX `abs`: R275, R133. -/
def execSaxAbs (w : Word) (s : State) : Result := runStore (fun t => t.A &&& t.X) (.abs w) s

/-- $97 SAX `zpy`: R275, R135. -/
def execSaxZpy (b : Byte) (s : State) : Result := runStore (fun t => t.A &&& t.X) (.zpy b) s

/-- $8B ANE `imm`: R291, R132. -/
def execAneImm (v : Byte) (s : State) : Result := runImm ane v s

/-- $93 SHA `izy`: R295, R143. -/
def execShaIzy (b : Byte) (s : State) : Result := runStoreHigh (fun t => t.A &&& t.X) (.izy b) s

/-- $9F SHA `aby`: R295, R138. -/
def execShaAby (w : Word) (s : State) : Result := runStoreHigh (fun t => t.A &&& t.X) (.aby w) s

/-- $9B SHS `aby`: R298, R138. -/
def execShsAby (w : Word) (s : State) : Result := runShs (.aby w) s

/-- $9C SHY `abx`: R297, R138. -/
def execShyAbx (w : Word) (s : State) : Result := runStoreHigh (fun t => t.Y) (.abx w) s

/-- $9E SHX `aby`: R296, R138. -/
def execShxAby (w : Word) (s : State) : Result := runStoreHigh (fun t => t.X) (.aby w) s

/-- $A3 LAX `izx`: R276, R140. -/
def execLaxIzx (b : Byte) (s : State) : Result := runRead lax (.izx b) s

/-- $A7 LAX `zp`: R276, R134. -/
def execLaxZp (b : Byte) (s : State) : Result := runRead lax (.zp b) s

/-- $AF LAX `abs`: R276, R133. -/
def execLaxAbs (w : Word) (s : State) : Result := runRead lax (.abs w) s

/-- $B3 LAX `izy`: R276, R141. -/
def execLaxIzy (b : Byte) (s : State) : Result := runRead lax (.izy b) s

/-- $B7 LAX `zpy`: R276, R135. -/
def execLaxZpy (b : Byte) (s : State) : Result := runRead lax (.zpy b) s

/-- $BF LAX `aby`: R276, R136. -/
def execLaxAby (w : Word) (s : State) : Result := runRead lax (.aby w) s

/-- $AB LXA `imm`: R292, R132. -/
def execLxaImm (v : Byte) (s : State) : Result := runImm lxa v s

/-- $BB LAS `aby`: R299, R136. -/
def execLasAby (w : Word) (s : State) : Result := runRead las (.aby w) s

/-- $C3 DCP `izx`: R277, R140. -/
def execDcpIzx (b : Byte) (s : State) : Result := runRmwThen dec cmp (.izx b) s

/-- $C7 DCP `zp`: R277, R134. -/
def execDcpZp (b : Byte) (s : State) : Result := runRmwThen dec cmp (.zp b) s

/-- $CF DCP `abs`: R277, R133. -/
def execDcpAbs (w : Word) (s : State) : Result := runRmwThen dec cmp (.abs w) s

/-- $D3 DCP `izy`: R277, R142. -/
def execDcpIzy (b : Byte) (s : State) : Result := runRmwThen dec cmp (.izy b) s

/-- $D7 DCP `zpx`: R277, R135. -/
def execDcpZpx (b : Byte) (s : State) : Result := runRmwThen dec cmp (.zpx b) s

/-- $DB DCP `aby`: R277, R137. -/
def execDcpAby (w : Word) (s : State) : Result := runRmwThen dec cmp (.aby w) s

/-- $DF DCP `abx`: R277, R137. -/
def execDcpAbx (w : Word) (s : State) : Result := runRmwThen dec cmp (.abx w) s

/-- $CB SBX `imm`: R293, R132. -/
def execSbxImm (v : Byte) (s : State) : Result := runImm sbx v s

/-- $E3 ISB `izx`: R278, R140. -/
def execIsbIzx (b : Byte) (s : State) : Result := runRmwThen inc sbc (.izx b) s

/-- $E7 ISB `zp`: R278, R134. -/
def execIsbZp (b : Byte) (s : State) : Result := runRmwThen inc sbc (.zp b) s

/-- $EF ISB `abs`: R278, R133. -/
def execIsbAbs (w : Word) (s : State) : Result := runRmwThen inc sbc (.abs w) s

/-- $F3 ISB `izy`: R278, R142. -/
def execIsbIzy (b : Byte) (s : State) : Result := runRmwThen inc sbc (.izy b) s

/-- $F7 ISB `zpx`: R278, R135. -/
def execIsbZpx (b : Byte) (s : State) : Result := runRmwThen inc sbc (.zpx b) s

/-- $FB ISB `aby`: R278, R137. -/
def execIsbAby (w : Word) (s : State) : Result := runRmwThen inc sbc (.aby w) s

/-- $FF ISB `abx`: R278, R137. -/
def execIsbAbx (w : Word) (s : State) : Result := runRmwThen inc sbc (.abx w) s

/-- $EB SBC `imm`: R294, R132. -/
def execSbcImmEB (v : Byte) (s : State) : Result := runImm sbc v s

end Sys2Proof.Machine
end

