-- ==== Sys2Proof/Machine/Dispatch.lean ====
section
/-! DEFINITION. One arm per instruction: a direct call of its meaning. -/

namespace Sys2Proof.Machine

/-- What an instruction at pc does, opcode fetch included (00_scope.md R13). -/
def exec (i : Instr) (s : State) : Host.Outcome State Fault Refusal :=
  match i with
  | .brk => Sys2Proof.Machine.execBrk s
  | .oraIzx b => Sys2Proof.Machine.execOraIzx b s
  | .jam02 => Sys2Proof.Machine.execJam02 s
  | .sloIzx b => Sys2Proof.Machine.execSloIzx b s
  | .nopZp04 b => Sys2Proof.Machine.execNopZp04 b s
  | .oraZp b => Sys2Proof.Machine.execOraZp b s
  | .aslZp b => Sys2Proof.Machine.execAslZp b s
  | .sloZp b => Sys2Proof.Machine.execSloZp b s
  | .php => Sys2Proof.Machine.execPhp s
  | .oraImm v => Sys2Proof.Machine.execOraImm v s
  | .aslAcc => Sys2Proof.Machine.execAslAcc s
  | .ancImm0B v => Sys2Proof.Machine.execAncImm0B v s
  | .nopAbs0C w => Sys2Proof.Machine.execNopAbs0C w s
  | .oraAbs w => Sys2Proof.Machine.execOraAbs w s
  | .aslAbs w => Sys2Proof.Machine.execAslAbs w s
  | .sloAbs w => Sys2Proof.Machine.execSloAbs w s
  | .bpl off => Sys2Proof.Machine.execBpl off s
  | .oraIzy b => Sys2Proof.Machine.execOraIzy b s
  | .jam12 => Sys2Proof.Machine.execJam12 s
  | .sloIzy b => Sys2Proof.Machine.execSloIzy b s
  | .nopZpx14 b => Sys2Proof.Machine.execNopZpx14 b s
  | .oraZpx b => Sys2Proof.Machine.execOraZpx b s
  | .aslZpx b => Sys2Proof.Machine.execAslZpx b s
  | .sloZpx b => Sys2Proof.Machine.execSloZpx b s
  | .clc => Sys2Proof.Machine.execClc s
  | .oraAby w => Sys2Proof.Machine.execOraAby w s
  | .nopImp1A => Sys2Proof.Machine.execNopImp1A s
  | .sloAby w => Sys2Proof.Machine.execSloAby w s
  | .nopAbx1C w => Sys2Proof.Machine.execNopAbx1C w s
  | .oraAbx w => Sys2Proof.Machine.execOraAbx w s
  | .aslAbx w => Sys2Proof.Machine.execAslAbx w s
  | .sloAbx w => Sys2Proof.Machine.execSloAbx w s
  | .jsr w => Sys2Proof.Machine.execJsr w s
  | .andIzx b => Sys2Proof.Machine.execAndIzx b s
  | .jam22 => Sys2Proof.Machine.execJam22 s
  | .rlaIzx b => Sys2Proof.Machine.execRlaIzx b s
  | .bitZp b => Sys2Proof.Machine.execBitZp b s
  | .andZp b => Sys2Proof.Machine.execAndZp b s
  | .rolZp b => Sys2Proof.Machine.execRolZp b s
  | .rlaZp b => Sys2Proof.Machine.execRlaZp b s
  | .plp => Sys2Proof.Machine.execPlp s
  | .andImm v => Sys2Proof.Machine.execAndImm v s
  | .rolAcc => Sys2Proof.Machine.execRolAcc s
  | .ancImm2B v => Sys2Proof.Machine.execAncImm2B v s
  | .bitAbs w => Sys2Proof.Machine.execBitAbs w s
  | .andAbs w => Sys2Proof.Machine.execAndAbs w s
  | .rolAbs w => Sys2Proof.Machine.execRolAbs w s
  | .rlaAbs w => Sys2Proof.Machine.execRlaAbs w s
  | .bmi off => Sys2Proof.Machine.execBmi off s
  | .andIzy b => Sys2Proof.Machine.execAndIzy b s
  | .jam32 => Sys2Proof.Machine.execJam32 s
  | .rlaIzy b => Sys2Proof.Machine.execRlaIzy b s
  | .nopZpx34 b => Sys2Proof.Machine.execNopZpx34 b s
  | .andZpx b => Sys2Proof.Machine.execAndZpx b s
  | .rolZpx b => Sys2Proof.Machine.execRolZpx b s
  | .rlaZpx b => Sys2Proof.Machine.execRlaZpx b s
  | .sec => Sys2Proof.Machine.execSec s
  | .andAby w => Sys2Proof.Machine.execAndAby w s
  | .nopImp3A => Sys2Proof.Machine.execNopImp3A s
  | .rlaAby w => Sys2Proof.Machine.execRlaAby w s
  | .nopAbx3C w => Sys2Proof.Machine.execNopAbx3C w s
  | .andAbx w => Sys2Proof.Machine.execAndAbx w s
  | .rolAbx w => Sys2Proof.Machine.execRolAbx w s
  | .rlaAbx w => Sys2Proof.Machine.execRlaAbx w s
  | .rti => Sys2Proof.Machine.execRti s
  | .eorIzx b => Sys2Proof.Machine.execEorIzx b s
  | .jam42 => Sys2Proof.Machine.execJam42 s
  | .sreIzx b => Sys2Proof.Machine.execSreIzx b s
  | .nopZp44 b => Sys2Proof.Machine.execNopZp44 b s
  | .eorZp b => Sys2Proof.Machine.execEorZp b s
  | .lsrZp b => Sys2Proof.Machine.execLsrZp b s
  | .sreZp b => Sys2Proof.Machine.execSreZp b s
  | .pha => Sys2Proof.Machine.execPha s
  | .eorImm v => Sys2Proof.Machine.execEorImm v s
  | .lsrAcc => Sys2Proof.Machine.execLsrAcc s
  | .asrImm v => Sys2Proof.Machine.execAsrImm v s
  | .jmpAbs w => Sys2Proof.Machine.execJmpAbs w s
  | .eorAbs w => Sys2Proof.Machine.execEorAbs w s
  | .lsrAbs w => Sys2Proof.Machine.execLsrAbs w s
  | .sreAbs w => Sys2Proof.Machine.execSreAbs w s
  | .bvc off => Sys2Proof.Machine.execBvc off s
  | .eorIzy b => Sys2Proof.Machine.execEorIzy b s
  | .jam52 => Sys2Proof.Machine.execJam52 s
  | .sreIzy b => Sys2Proof.Machine.execSreIzy b s
  | .nopZpx54 b => Sys2Proof.Machine.execNopZpx54 b s
  | .eorZpx b => Sys2Proof.Machine.execEorZpx b s
  | .lsrZpx b => Sys2Proof.Machine.execLsrZpx b s
  | .sreZpx b => Sys2Proof.Machine.execSreZpx b s
  | .cli => Sys2Proof.Machine.execCli s
  | .eorAby w => Sys2Proof.Machine.execEorAby w s
  | .nopImp5A => Sys2Proof.Machine.execNopImp5A s
  | .sreAby w => Sys2Proof.Machine.execSreAby w s
  | .nopAbx5C w => Sys2Proof.Machine.execNopAbx5C w s
  | .eorAbx w => Sys2Proof.Machine.execEorAbx w s
  | .lsrAbx w => Sys2Proof.Machine.execLsrAbx w s
  | .sreAbx w => Sys2Proof.Machine.execSreAbx w s
  | .rts => Sys2Proof.Machine.execRts s
  | .adcIzx b => Sys2Proof.Machine.execAdcIzx b s
  | .jam62 => Sys2Proof.Machine.execJam62 s
  | .rraIzx b => Sys2Proof.Machine.execRraIzx b s
  | .nopZp64 b => Sys2Proof.Machine.execNopZp64 b s
  | .adcZp b => Sys2Proof.Machine.execAdcZp b s
  | .rorZp b => Sys2Proof.Machine.execRorZp b s
  | .rraZp b => Sys2Proof.Machine.execRraZp b s
  | .pla => Sys2Proof.Machine.execPla s
  | .adcImm v => Sys2Proof.Machine.execAdcImm v s
  | .rorAcc => Sys2Proof.Machine.execRorAcc s
  | .arrImm v => Sys2Proof.Machine.execArrImm v s
  | .jmpInd p => Sys2Proof.Machine.execJmpInd p s
  | .adcAbs w => Sys2Proof.Machine.execAdcAbs w s
  | .rorAbs w => Sys2Proof.Machine.execRorAbs w s
  | .rraAbs w => Sys2Proof.Machine.execRraAbs w s
  | .bvs off => Sys2Proof.Machine.execBvs off s
  | .adcIzy b => Sys2Proof.Machine.execAdcIzy b s
  | .jam72 => Sys2Proof.Machine.execJam72 s
  | .rraIzy b => Sys2Proof.Machine.execRraIzy b s
  | .nopZpx74 b => Sys2Proof.Machine.execNopZpx74 b s
  | .adcZpx b => Sys2Proof.Machine.execAdcZpx b s
  | .rorZpx b => Sys2Proof.Machine.execRorZpx b s
  | .rraZpx b => Sys2Proof.Machine.execRraZpx b s
  | .sei => Sys2Proof.Machine.execSei s
  | .adcAby w => Sys2Proof.Machine.execAdcAby w s
  | .nopImp7A => Sys2Proof.Machine.execNopImp7A s
  | .rraAby w => Sys2Proof.Machine.execRraAby w s
  | .nopAbx7C w => Sys2Proof.Machine.execNopAbx7C w s
  | .adcAbx w => Sys2Proof.Machine.execAdcAbx w s
  | .rorAbx w => Sys2Proof.Machine.execRorAbx w s
  | .rraAbx w => Sys2Proof.Machine.execRraAbx w s
  | .nopImm80 v => Sys2Proof.Machine.execNopImm80 v s
  | .staIzx b => Sys2Proof.Machine.execStaIzx b s
  | .nopImm82 v => Sys2Proof.Machine.execNopImm82 v s
  | .saxIzx b => Sys2Proof.Machine.execSaxIzx b s
  | .styZp b => Sys2Proof.Machine.execStyZp b s
  | .staZp b => Sys2Proof.Machine.execStaZp b s
  | .stxZp b => Sys2Proof.Machine.execStxZp b s
  | .saxZp b => Sys2Proof.Machine.execSaxZp b s
  | .dey => Sys2Proof.Machine.execDey s
  | .nopImm89 v => Sys2Proof.Machine.execNopImm89 v s
  | .txa => Sys2Proof.Machine.execTxa s
  | .aneImm v => Sys2Proof.Machine.execAneImm v s
  | .styAbs w => Sys2Proof.Machine.execStyAbs w s
  | .staAbs w => Sys2Proof.Machine.execStaAbs w s
  | .stxAbs w => Sys2Proof.Machine.execStxAbs w s
  | .saxAbs w => Sys2Proof.Machine.execSaxAbs w s
  | .bcc off => Sys2Proof.Machine.execBcc off s
  | .staIzy b => Sys2Proof.Machine.execStaIzy b s
  | .jam92 => Sys2Proof.Machine.execJam92 s
  | .shaIzy b => Sys2Proof.Machine.execShaIzy b s
  | .styZpx b => Sys2Proof.Machine.execStyZpx b s
  | .staZpx b => Sys2Proof.Machine.execStaZpx b s
  | .stxZpy b => Sys2Proof.Machine.execStxZpy b s
  | .saxZpy b => Sys2Proof.Machine.execSaxZpy b s
  | .tya => Sys2Proof.Machine.execTya s
  | .staAby w => Sys2Proof.Machine.execStaAby w s
  | .txs => Sys2Proof.Machine.execTxs s
  | .shsAby w => Sys2Proof.Machine.execShsAby w s
  | .shyAbx w => Sys2Proof.Machine.execShyAbx w s
  | .staAbx w => Sys2Proof.Machine.execStaAbx w s
  | .shxAby w => Sys2Proof.Machine.execShxAby w s
  | .shaAby w => Sys2Proof.Machine.execShaAby w s
  | .ldyImm v => Sys2Proof.Machine.execLdyImm v s
  | .ldaIzx b => Sys2Proof.Machine.execLdaIzx b s
  | .ldxImm v => Sys2Proof.Machine.execLdxImm v s
  | .laxIzx b => Sys2Proof.Machine.execLaxIzx b s
  | .ldyZp b => Sys2Proof.Machine.execLdyZp b s
  | .ldaZp b => Sys2Proof.Machine.execLdaZp b s
  | .ldxZp b => Sys2Proof.Machine.execLdxZp b s
  | .laxZp b => Sys2Proof.Machine.execLaxZp b s
  | .tay => Sys2Proof.Machine.execTay s
  | .ldaImm v => Sys2Proof.Machine.execLdaImm v s
  | .tax => Sys2Proof.Machine.execTax s
  | .lxaImm v => Sys2Proof.Machine.execLxaImm v s
  | .ldyAbs w => Sys2Proof.Machine.execLdyAbs w s
  | .ldaAbs w => Sys2Proof.Machine.execLdaAbs w s
  | .ldxAbs w => Sys2Proof.Machine.execLdxAbs w s
  | .laxAbs w => Sys2Proof.Machine.execLaxAbs w s
  | .bcs off => Sys2Proof.Machine.execBcs off s
  | .ldaIzy b => Sys2Proof.Machine.execLdaIzy b s
  | .jamB2 => Sys2Proof.Machine.execJamB2 s
  | .laxIzy b => Sys2Proof.Machine.execLaxIzy b s
  | .ldyZpx b => Sys2Proof.Machine.execLdyZpx b s
  | .ldaZpx b => Sys2Proof.Machine.execLdaZpx b s
  | .ldxZpy b => Sys2Proof.Machine.execLdxZpy b s
  | .laxZpy b => Sys2Proof.Machine.execLaxZpy b s
  | .clv => Sys2Proof.Machine.execClv s
  | .ldaAby w => Sys2Proof.Machine.execLdaAby w s
  | .tsx => Sys2Proof.Machine.execTsx s
  | .lasAby w => Sys2Proof.Machine.execLasAby w s
  | .ldyAbx w => Sys2Proof.Machine.execLdyAbx w s
  | .ldaAbx w => Sys2Proof.Machine.execLdaAbx w s
  | .ldxAby w => Sys2Proof.Machine.execLdxAby w s
  | .laxAby w => Sys2Proof.Machine.execLaxAby w s
  | .cpyImm v => Sys2Proof.Machine.execCpyImm v s
  | .cmpIzx b => Sys2Proof.Machine.execCmpIzx b s
  | .nopImmC2 v => Sys2Proof.Machine.execNopImmC2 v s
  | .dcpIzx b => Sys2Proof.Machine.execDcpIzx b s
  | .cpyZp b => Sys2Proof.Machine.execCpyZp b s
  | .cmpZp b => Sys2Proof.Machine.execCmpZp b s
  | .decZp b => Sys2Proof.Machine.execDecZp b s
  | .dcpZp b => Sys2Proof.Machine.execDcpZp b s
  | .iny => Sys2Proof.Machine.execIny s
  | .cmpImm v => Sys2Proof.Machine.execCmpImm v s
  | .dex => Sys2Proof.Machine.execDex s
  | .sbxImm v => Sys2Proof.Machine.execSbxImm v s
  | .cpyAbs w => Sys2Proof.Machine.execCpyAbs w s
  | .cmpAbs w => Sys2Proof.Machine.execCmpAbs w s
  | .decAbs w => Sys2Proof.Machine.execDecAbs w s
  | .dcpAbs w => Sys2Proof.Machine.execDcpAbs w s
  | .bne off => Sys2Proof.Machine.execBne off s
  | .cmpIzy b => Sys2Proof.Machine.execCmpIzy b s
  | .jamD2 => Sys2Proof.Machine.execJamD2 s
  | .dcpIzy b => Sys2Proof.Machine.execDcpIzy b s
  | .nopZpxD4 b => Sys2Proof.Machine.execNopZpxD4 b s
  | .cmpZpx b => Sys2Proof.Machine.execCmpZpx b s
  | .decZpx b => Sys2Proof.Machine.execDecZpx b s
  | .dcpZpx b => Sys2Proof.Machine.execDcpZpx b s
  | .cld => Sys2Proof.Machine.execCld s
  | .cmpAby w => Sys2Proof.Machine.execCmpAby w s
  | .nopImpDA => Sys2Proof.Machine.execNopImpDA s
  | .dcpAby w => Sys2Proof.Machine.execDcpAby w s
  | .nopAbxDC w => Sys2Proof.Machine.execNopAbxDC w s
  | .cmpAbx w => Sys2Proof.Machine.execCmpAbx w s
  | .decAbx w => Sys2Proof.Machine.execDecAbx w s
  | .dcpAbx w => Sys2Proof.Machine.execDcpAbx w s
  | .cpxImm v => Sys2Proof.Machine.execCpxImm v s
  | .sbcIzx b => Sys2Proof.Machine.execSbcIzx b s
  | .nopImmE2 v => Sys2Proof.Machine.execNopImmE2 v s
  | .isbIzx b => Sys2Proof.Machine.execIsbIzx b s
  | .cpxZp b => Sys2Proof.Machine.execCpxZp b s
  | .sbcZp b => Sys2Proof.Machine.execSbcZp b s
  | .incZp b => Sys2Proof.Machine.execIncZp b s
  | .isbZp b => Sys2Proof.Machine.execIsbZp b s
  | .inx => Sys2Proof.Machine.execInx s
  | .sbcImm v => Sys2Proof.Machine.execSbcImm v s
  | .nop => Sys2Proof.Machine.execNop s
  | .sbcImmEB v => Sys2Proof.Machine.execSbcImmEB v s
  | .cpxAbs w => Sys2Proof.Machine.execCpxAbs w s
  | .sbcAbs w => Sys2Proof.Machine.execSbcAbs w s
  | .incAbs w => Sys2Proof.Machine.execIncAbs w s
  | .isbAbs w => Sys2Proof.Machine.execIsbAbs w s
  | .beq off => Sys2Proof.Machine.execBeq off s
  | .sbcIzy b => Sys2Proof.Machine.execSbcIzy b s
  | .jamF2 => Sys2Proof.Machine.execJamF2 s
  | .isbIzy b => Sys2Proof.Machine.execIsbIzy b s
  | .nopZpxF4 b => Sys2Proof.Machine.execNopZpxF4 b s
  | .sbcZpx b => Sys2Proof.Machine.execSbcZpx b s
  | .incZpx b => Sys2Proof.Machine.execIncZpx b s
  | .isbZpx b => Sys2Proof.Machine.execIsbZpx b s
  | .sed => Sys2Proof.Machine.execSed s
  | .sbcAby w => Sys2Proof.Machine.execSbcAby w s
  | .nopImpFA => Sys2Proof.Machine.execNopImpFA s
  | .isbAby w => Sys2Proof.Machine.execIsbAby w s
  | .nopAbxFC w => Sys2Proof.Machine.execNopAbxFC w s
  | .sbcAbx w => Sys2Proof.Machine.execSbcAbx w s
  | .incAbx w => Sys2Proof.Machine.execIncAbx w s
  | .isbAbx w => Sys2Proof.Machine.execIsbAbx w s

end Sys2Proof.Machine
end

