-- ==== Sys2Proof/Machine/Step.lean ====
section
/-! DEFINITION. One step (00_scope.md R13): the environment acts at the boundary, then the reset sequence, a cycle of a
jammed processor, an interrupt sequence, or the instruction at pc, in the order of 60_exceptions.md R316. -/

namespace Sys2Proof.Machine

/-- The instruction whose bytes lie at pc (R13, R100). -/
def runInstruction (s : State) : Host.Outcome State Fault Refusal :=
  match decode (fetchBytes s) with
  | .ok (i, _) => exec i (startInstr s)
  | .error _ => .refused .undecoded

/-- What happens at a boundary after the environment has acted (R316): -RESET first, a jammed processor does nothing
else (R336), then NMI before IRQ (D8), then the next instruction. -/
def dispatch (s : State) : Host.Outcome State Fault Refusal :=
  if s.resetLine then .next (resetSequence s)
  else if s.jammed then .next (jamCycle s)
  else if takesNmi s then .next (nmiSequence s)
  else if takesIrq s then .next (irqSequence s)
  else runInstruction s

/-- One step. -/
def step (s : State) : Host.Outcome State Fault Refusal := dispatch (boundary s)

/-- An instruction whose bits are `w`, stored where the next step fetches, by the platform and not by the processor (log
5), in a state where that step is an instruction. -/
def State.withFetchWord (s : State) (nbits w : Nat) : State :=
  match tableBytes nbits w with
  | [b0, b1, b2] => placeAtPc b0 b1 b2 (quiet s)
  | _ => s

end Sys2Proof.Machine
end

