-- ==== Sys2Proof/Machine/BusLists.lean ====
section
/-! DEFINITION. The bus sequences of 40_addressing.md as plain lists of addresses, for the statements: which addresses an
addressing mode reads, in which order, what each read obtains, and the state after reads alone. Nothing here is used by
the step. -/

namespace Sys2Proof.Machine

/-- The reads at the addresses of a list, with the bytes they obtain, in order (R8, R13, R66). -/
def readsOf : List Word → State → List BusAccess
  | [], _ => []
  | a :: as, s => .read a (peek a s) :: readsOf as (dummyRead a s)

/-- The devices' state after reads at the addresses of a list (R60, R66). -/
def deviceAfter : List Word → State → Nat
  | [], s => s.device
  | a :: as, s => deviceAfter as (dummyRead a s)

/-- The state after reads at the addresses of a list, `up` of which were instruction fetches (R8, R9): nothing but pc, the
devices, the list of accesses and the count of cycles changes. -/
def afterReads (up : Word) (as : List Word) (s : State) : State :=
  { s with
    pc := s.pc + up, device := deviceAfter as s, tick := s.tick + as.length, accesses := s.accesses ++ readsOf as s }

/-- A 16-bit pointer whose low byte is read after the reads of a list and whose high byte right after it (R62). -/
def pointerAfter (as : List Word) (lowAt highAt : Word) (s : State) : Word :=
  wordOf (peekAfter (as ++ [lowAt]) highAt s) (peekAfter as lowAt s)

/-- On a bus of which nothing is known, a list of accesses is a session of that bus that begins at a count of cycles: each
access in turn acts on the devices' state, from the first value to the last, and each read holds the byte the bus answered
(R8, R60, R66). A register of the on-chip port is read without the bus (R80; log 42). -/
def busSession (p : Params) : List BusAccess → (device tick last : Nat) → Prop
  | [], device, _, last => last = device
  | .read a v :: es, device, tick, last =>
    if isPortRegister p a then busSession p es device (tick + 1) last
    else v = Config.deviceAnswer (.address a) device tick ∧
      busSession p es (Config.deviceAfterRead (.address a) device tick) (tick + 1) last
  | .write a v :: es, device, tick, last =>
    busSession p es (Config.deviceAfterWrite (.address a) v device tick) (tick + 1) last

/-- The bytes of an instruction with an operand in this mode (R102). -/
def modeLength : MemMode → Word
  | .zp _ | .zpx _ | .zpy _ | .izx _ | .izy _ => 2
  | .abs _ | .abx _ | .aby _ => 3

/-- The effective address of a mode (R133 to R136, R140, R141). -/
def targetOf (m : MemMode) (s : State) : Target :=
  match m with
  | .zp b => direct (zeroPage b)
  | .zpx b => direct (zeroPage (b + s.X))
  | .zpy b => direct (zeroPage (b + s.Y))
  | .abs w => direct w
  | .abx w => indexedBy w s.X
  | .aby w => indexedBy w s.Y
  | .izx b =>
    direct (pointerAfter [s.pc, s.pc + 1, zeroPage b] (zeroPage (b + s.X)) (zeroPage (b + s.X + 1)) s)
  | .izy b => indexedBy (pointerAfter [s.pc, s.pc + 1] (zeroPage b) (zeroPage (b + 1)) s) s.Y

/-- The addresses read before the operand is accessed: the fetches, the dummy read of the zero-page indexed modes and of
`izx`, the pointer (R133 to R136, R140, R141). -/
def addressReads (m : MemMode) (s : State) : List Word :=
  match m with
  | .zp _ => [s.pc, s.pc + 1]
  | .zpx b => [s.pc, s.pc + 1, zeroPage b]
  | .zpy b => [s.pc, s.pc + 1, zeroPage b]
  | .abs _ => [s.pc, s.pc + 1, s.pc + 2]
  | .abx _ => [s.pc, s.pc + 1, s.pc + 2]
  | .aby _ => [s.pc, s.pc + 1, s.pc + 2]
  | .izx b => [s.pc, s.pc + 1, zeroPage b, zeroPage (b + s.X), zeroPage (b + s.X + 1)]
  | .izy b => [s.pc, s.pc + 1, zeroPage b, zeroPage (b + 1)]

/-- The reads of a Read-class instruction: the unfixed address, and the right one after it on a page crossing (R136,
R141). -/
def readReads (m : MemMode) (s : State) : List Word :=
  addressReads m s ++
    (if (targetOf m s).crossed then [(targetOf m s).unfixed, (targetOf m s).fixed] else [(targetOf m s).fixed])

/-- The byte a Read-class instruction obtains: what its last read answers. -/
def operandByte (m : MemMode) (s : State) : Byte :=
  peekAfter (addressReads m s ++ (if (targetOf m s).crossed then [(targetOf m s).unfixed] else [])) (targetOf m s).fixed s

/-- The reads of a Write-class instruction before its write: in the indexed modes the unfixed address, always (R138,
R143). -/
def writeReads (m : MemMode) (s : State) : List Word :=
  addressReads m s ++ (if fixesHigh m then [(targetOf m s).unfixed] else [])

/-- The reads of a Read-Modify-Write instruction before its two writes: the last is of the effective address (R137, R142,
R259). -/
def modifyReads (m : MemMode) (s : State) : List Word := writeReads m s ++ [(targetOf m s).fixed]

/-- The byte a Read-Modify-Write instruction reads. -/
def oldByte (m : MemMode) (s : State) : Byte := peekAfter (writeReads m s) (targetOf m s).fixed s

/-- The two writes of a Read-Modify-Write instruction, the old byte and then the new one, after its reads (R259). -/
def modified (m : MemMode) (new : Byte) (s : State) : State :=
  memWrite (targetOf m s).fixed new
    (memWrite (targetOf m s).fixed (oldByte m s) (afterReads (modeLength m) (modifyReads m s) s))

/-- The write of a Write-class instruction after its reads (R138, R143). -/
def stored (m : MemMode) (v : Byte) (s : State) : State :=
  memWrite (targetOf m s).fixed v (afterReads (modeLength m) (writeReads m s) s)

/-- Where SHA, SHX, SHY and SHS write (R295): on a page crossing the high byte of the address is the value. -/
def highStoreAddress (m : MemMode) (v : Byte) (s : State) : Word :=
  if (targetOf m s).crossed then wordOf v (lo8 (targetOf m s).unfixed) else (targetOf m s).unfixed

/-- The write of SHA, SHX, SHY and SHS after the reads of the Write class (R295). -/
def storedHigh (m : MemMode) (v : Byte) (s : State) : State :=
  memWrite (highStoreAddress m v s) v (afterReads (modeLength m) (writeReads m s) s)

/-- The two reads of every implied instruction; pc is not moved past the second (R131). -/
def afterImplied (s : State) : State := afterReads 1 [s.pc, s.pc + 1] s

/-- The two fetches of an immediate instruction (R132). -/
def afterImmediate (s : State) : State := afterReads 2 [s.pc, s.pc + 1] s

/-- The state after a Read-class instruction's reads. -/
def afterRead (m : MemMode) (s : State) : State := afterReads (modeLength m) (readReads m s) s

end Sys2Proof.Machine
end

