-- ==== Sys2Proof/Machine/Shapes.lean ====
section
/-! DEFINITION. The class of every opcode (00_scope.md section 5.5) with its mode, the cycle table of 40_addressing.md R145,
and the addresses an instruction writes, for the statements about all instructions. Nothing here is used by the step. -/

namespace Sys2Proof.Machine

/-- The bus sequence an instruction follows (00_scope.md section 5.5; 40_addressing.md; 41_stack_control.md). -/
inductive Shape where
  | implied
  | immediate
  | read (m : MemMode)
  | modify (m : MemMode)
  | write (m : MemMode)
  /-- SHA, SHX, SHY, SHS; the register value before it is ANDed with H + 1 (R295). -/
  | writeHigh (m : MemMode) (reg : Byte)
  | branch (taken : Bool) (off : Byte)
  | brk
  /-- RTI and RTS. -/
  | ret
  | push
  | pull
  | call
  | jump
  | jumpIndirect
  | jam
  | rareJam
deriving DecidableEq, Repr

/-- The bus sequence of each instruction (30_encoding.md R104, R105). -/
def shapeOf (i : Instr) (s : State) : Shape :=
  match i with
  | .brk => .brk
  | .oraIzx b | .andIzx b | .eorIzx b | .adcIzx b | .ldaIzx b | .laxIzx b | .cmpIzx b | .sbcIzx b => .read (.izx b)
  | .jam02 | .jam12 | .jam22 | .jam32 | .jam42 | .jam52 | .jam62 | .jam72 | .jam92 | .jamB2 | .jamD2 | .jamF2 =>
     .jam
  | .sloIzx b | .rlaIzx b | .sreIzx b | .rraIzx b | .dcpIzx b | .isbIzx b => .modify (.izx b)
  | .nopZp04 b | .oraZp b | .bitZp b | .andZp b | .nopZp44 b | .eorZp b | .nopZp64 b | .adcZp b | .ldyZp b |
    .ldaZp b | .ldxZp b | .laxZp b | .cpyZp b | .cmpZp b | .cpxZp b | .sbcZp b => .read (.zp b)
  | .aslZp b | .sloZp b | .rolZp b | .rlaZp b | .lsrZp b | .sreZp b | .rorZp b | .rraZp b | .decZp b | .dcpZp b |
    .incZp b | .isbZp b => .modify (.zp b)
  | .php | .pha => .push
  | .oraImm _ | .ancImm0B _ | .andImm _ | .ancImm2B _ | .eorImm _ | .asrImm _ | .adcImm _ | .arrImm _ |
    .nopImm80 _ | .nopImm89 _ | .aneImm _ | .ldyImm _ | .ldxImm _ | .ldaImm _ | .lxaImm _ | .cpyImm _ | .cmpImm _ |
    .sbxImm _ | .cpxImm _ | .sbcImm _ | .sbcImmEB _ => .immediate
  | .aslAcc | .clc | .nopImp1A | .rolAcc | .sec | .nopImp3A | .lsrAcc | .cli | .nopImp5A | .rorAcc | .sei |
    .nopImp7A | .dey | .txa | .tya | .txs | .tay | .tax | .clv | .tsx | .iny | .dex | .cld | .nopImpDA | .inx |
    .nop | .sed | .nopImpFA => .implied
  | .nopAbs0C w | .oraAbs w | .bitAbs w | .andAbs w | .eorAbs w | .adcAbs w | .ldyAbs w | .ldaAbs w | .ldxAbs w |
    .laxAbs w | .cpyAbs w | .cmpAbs w | .cpxAbs w | .sbcAbs w => .read (.abs w)
  | .aslAbs w | .sloAbs w | .rolAbs w | .rlaAbs w | .lsrAbs w | .sreAbs w | .rorAbs w | .rraAbs w | .decAbs w |
    .dcpAbs w | .incAbs w | .isbAbs w => .modify (.abs w)
  | .bpl off => .branch (!s.P.n) off
  | .oraIzy b | .andIzy b | .eorIzy b | .adcIzy b | .ldaIzy b | .laxIzy b | .cmpIzy b | .sbcIzy b => .read (.izy b)
  | .sloIzy b | .rlaIzy b | .sreIzy b | .rraIzy b | .dcpIzy b | .isbIzy b => .modify (.izy b)
  | .nopZpx14 b | .oraZpx b | .nopZpx34 b | .andZpx b | .nopZpx54 b | .eorZpx b | .nopZpx74 b | .adcZpx b |
    .ldyZpx b | .ldaZpx b | .nopZpxD4 b | .cmpZpx b | .nopZpxF4 b | .sbcZpx b => .read (.zpx b)
  | .aslZpx b | .sloZpx b | .rolZpx b | .rlaZpx b | .lsrZpx b | .sreZpx b | .rorZpx b | .rraZpx b | .decZpx b |
    .dcpZpx b | .incZpx b | .isbZpx b => .modify (.zpx b)
  | .oraAby w | .andAby w | .eorAby w | .adcAby w | .ldaAby w | .lasAby w | .ldxAby w | .laxAby w | .cmpAby w |
    .sbcAby w => .read (.aby w)
  | .sloAby w | .rlaAby w | .sreAby w | .rraAby w | .dcpAby w | .isbAby w => .modify (.aby w)
  | .nopAbx1C w | .oraAbx w | .nopAbx3C w | .andAbx w | .nopAbx5C w | .eorAbx w | .nopAbx7C w | .adcAbx w |
    .ldyAbx w | .ldaAbx w | .nopAbxDC w | .cmpAbx w | .nopAbxFC w | .sbcAbx w => .read (.abx w)
  | .aslAbx w | .sloAbx w | .rolAbx w | .rlaAbx w | .lsrAbx w | .sreAbx w | .rorAbx w | .rraAbx w | .decAbx w |
    .dcpAbx w | .incAbx w | .isbAbx w => .modify (.abx w)
  | .jsr _ => .call
  | .plp | .pla => .pull
  | .bmi off => .branch (s.P.n) off
  | .rti | .rts => .ret
  | .jmpAbs _ => .jump
  | .bvc off => .branch (!s.P.v) off
  | .jmpInd _ => .jumpIndirect
  | .bvs off => .branch (s.P.v) off
  | .staIzx b | .saxIzx b => .write (.izx b)
  | .nopImm82 _ | .nopImmC2 _ | .nopImmE2 _ => .rareJam
  | .styZp b | .staZp b | .stxZp b | .saxZp b => .write (.zp b)
  | .styAbs w | .staAbs w | .stxAbs w | .saxAbs w => .write (.abs w)
  | .bcc off => .branch (!s.P.c) off
  | .staIzy b => .write (.izy b)
  | .shaIzy b => .writeHigh (.izy b) (s.A &&& s.X)
  | .styZpx b | .staZpx b => .write (.zpx b)
  | .stxZpy b | .saxZpy b => .write (.zpy b)
  | .staAby w => .write (.aby w)
  | .shsAby w | .shaAby w => .writeHigh (.aby w) (s.A &&& s.X)
  | .shyAbx w => .writeHigh (.abx w) s.Y
  | .staAbx w => .write (.abx w)
  | .shxAby w => .writeHigh (.aby w) s.X
  | .bcs off => .branch (s.P.c) off
  | .ldxZpy b | .laxZpy b => .read (.zpy b)
  | .bne off => .branch (!s.P.z) off
  | .beq off => .branch (s.P.z) off

/-- 1 when a page is crossed (R136, R141). -/
def crossing (m : MemMode) (s : State) : Nat := if (targetOf m s).crossed then 1 else 0

/-- The bus cycles of a mode up to the operand, by the table of R145 less the accesses of the operand. -/
def modeCycles : MemMode → Nat
  | .zp _ => 2
  | .zpx _ | .zpy _ => 3
  | .abs _ | .abx _ | .aby _ => 3
  | .izx _ => 5
  | .izy _ => 4

/-- The extra read the modes that fix the high byte make in the RMW and Write classes (R145). -/
def fixCycle (m : MemMode) : Nat := if fixesHigh m then 1 else 0

/-- The cycles of a branch (R139, R145), pc at its opcode. -/
def branchCycles (taken : Bool) (off : Byte) (s : State) : Nat :=
  if taken then (if hi8 (s.pc + 2 + sext16 off) = hi8 (s.pc + 2) then 3 else 4) else 2

/-- The number of bus cycles of an instruction (R145, R372). A jam has no number (R302): the entry is not used. -/
def cyclesOf (i : Instr) (s : State) : Nat :=
  match shapeOf i s with
  | .implied => 2
  | .immediate => 2
  | .read m => modeCycles m + 1 + crossing m s
  | .modify m => modeCycles m + fixCycle m + 3
  | .write m => modeCycles m + fixCycle m + 1
  | .writeHigh m _ => modeCycles m + fixCycle m + 1
  | .branch taken off => branchCycles taken off s
  | .brk => 7
  | .ret => 6
  | .push => 3
  | .pull => 4
  | .call => 6
  | .jump => 3
  | .jumpIndirect => 5
  | .jam => 0
  | .rareJam => 2

/-- The addresses an instruction writes, in order (R10, R133 to R138, R140 to R143, R170, R173, R177, R259, R295). -/
def storeAddresses (i : Instr) (s : State) : List Word :=
  match shapeOf i s with
  | .modify m => [(targetOf m s).fixed, (targetOf m s).fixed]
  | .write m => [(targetOf m s).fixed]
  | .writeHigh m reg => [highStoreAddress m (reg &&& ((targetOf m s).baseHi + 1)) s]
  | .brk => [stackAddr s, wordOf 0x01 (s.S - 1), wordOf 0x01 (s.S - 2)]
  | .call => [stackAddr s, wordOf 0x01 (s.S - 1)]
  | .push => [stackAddr s]
  | .implied | .immediate | .read _ | .branch _ _ | .ret | .pull | .jump | .jumpIndirect | .jam | .rareJam => []

/-- The addresses of the write cycles of a list of accesses, in order. -/
def writesIn : List BusAccess → List Word
  | [] => []
  | .read _ _ :: l => writesIn l
  | .write a _ :: l => a :: writesIn l

end Sys2Proof.Machine
end

