-- ==== Sys2Proof/WellFormed.lean ====
section
/-! DEFINITION. What is well formed. The operands of an instruction are bit vectors of exactly the width its encoding
has (R103), so every term of `Instr` has an encoding; what can be wrong is an instruction that a part does not have
(30_encoding.md R113), and a set of parameters that no member of the family has (00_scope.md R2, R7). -/

namespace Sys2Proof

/-- The instructions that contain ROR: ROR, RRA and ARR (R113). -/
def Instr.usesRor : Instr → Bool
  | .rorZp _ | .rorAcc | .rorAbs _ | .rorZpx _ | .rorAbx _ => true
  | .rraIzx _ | .rraZp _ | .rraAbs _ | .rraIzy _ | .rraZpx _ | .rraAby _ | .rraAbx _ => true
  | .arrImm _ => true
  | _ => false

/-- The instruction has a stated behaviour on a part with these parameters (R113, U12, D23). -/
def Instr.wellFormed (p : Params) (i : Instr) : Bool := p.hasRor || !i.usesRor

/-- The parameters are those of a member of the family (R2, R7, R113, D19, D23): the 6502 has -SO and no port, the 6510
and the 8502 have their ports, ROR, and no -SO; of the 8500 only ROR is known (N17). The Commodore 64 is built around a
part with the port (R86). -/
def Params.legal (p : Params) : Bool :=
  (match p.variant with
  | .mos6502 => !p.hasIoPort && p.portLines == 0 && p.hasSo
  | .mos6510 => p.hasIoPort && p.portLines == 6 && p.hasRor && !p.hasSo
  | .mos8502 => p.hasIoPort && p.portLines == 7 && p.hasRor && !p.hasSo
  | .mos8500 => p.hasRor && decide (p.portLines ≤ 8)) &&
  (match p.platform with
  | .flatRam => true
  | .commodore64 => p.hasIoPort
  | .external => true)

end Sys2Proof
end

