-- ==== Sys2Proof/Safety.lean ====
section
/-! DEFINITION. What a safe run is on a machine that raises no fault (60_exceptions.md R310): every step has a next
state, and the state keeps the invariant of the plain data it is written in. -/

namespace Sys2Proof.Machine

/-- The outcome is a next state. -/
def Completes (r : Result) : Prop := ∃ t, r = .next t

/-- The invariant of the state: every memory is in its canonical form, and the port's registers hold implemented bits
only (20_memory.md R81), none on a part without the port (R80). -/
def State.Inv (s : State) : Prop :=
  s.ram.wf = true ∧ s.colorRam.wf = true ∧ s.roms.kernal.wf = true ∧ s.roms.basic.wf = true ∧
  s.roms.character.wf = true ∧ s.roms.romL.wf = true ∧ s.roms.romH.wf = true ∧
  s.ddr &&& ~~~portMask s.params = 0 ∧ s.prLatch &&& ~~~portMask s.params = 0 ∧
  (s.params.hasIoPort = false → s.ddr = 0 ∧ s.prLatch = 0)

end Sys2Proof.Machine
end

