-- ==== Sys2Proof/Certificates/Slice0/Obligations.lean ====
section
/-! DEFINITION. The statements for the provers. A docstring names the rules of spec/ a statement
rests on; where it rests on a choice of the model it names the log entry. -/

open Sys2Proof Sys2Proof.Machine

/-- Decoding the encoding of any instruction gives that instruction and leaves the bytes after it. Rests on
30_encoding.md sections 1 to 3, R100, R103, R104. -/
def Obligations.DecodeUndoesEncode : Prop :=
  ∀ (i : Instr) (rest : List Byte), decode (encode i ++ rest) = .ok (i, rest)

/-- Every opcode byte decodes, with a length of its own, and whatever decodes is its instruction's encoding. Rests on
R106, R108, 30_encoding.md section 1, 30_encoding.md section 3. -/
def Obligations.DecodingIsTotalAndExact : Prop :=
  (∀ op : Byte, ∃ n : Nat, 1 ≤ n ∧ n ≤ 3 ∧
    ∀ (b1 b2 : Byte) (rest : List Byte), ∃ i,
      decode (op :: b1 :: b2 :: rest) = .ok (i, (op :: b1 :: b2 :: rest).drop n)) ∧
  (∀ (bs rest : List Byte) (i : Instr), decode bs = .ok (i, rest) → encode i ++ rest = bs)

/-- Words written out from the opcode matrix decode to the instructions they stand for. Rests on R104, R105,
30_encoding.md section 3. -/
def Obligations.SampleWordsDecode : Prop :=
  decode [0xA9, 0x42] = .ok (.ldaImm 0x42, []) ∧ decode [0xBD, 0xFD, 0xDC] = .ok (.ldaAbx 0xDCFD, []) ∧
  decode [0xB6, 0x10] = .ok (.ldxZpy 0x10, []) ∧ decode [0x91, 0x40] = .ok (.staIzy 0x40, []) ∧
  decode [0x4E, 0x19, 0xD0] = .ok (.lsrAbs 0xD019, []) ∧ decode [0x6A] = .ok (.rorAcc, []) ∧
  decode [0x00] = .ok (.brk, []) ∧ decode [0x20, 0x34, 0x12] = .ok (.jsr 0x1234, []) ∧
  decode [0x6C, 0xFF, 0x01] = .ok (.jmpInd 0x01FF, []) ∧ decode [0x10, 0x91] = .ok (.bpl 0x91, []) ∧
  decode [0x9A] = .ok (.txs, []) ∧ decode [0xF8] = .ok (.sed, []) ∧ decode [0x69, 0x2D] = .ok (.adcImm 0x2D, []) ∧
  decode [0xEB, 0x05] = .ok (.sbcImmEB 0x05, []) ∧ decode [0xCB, 0x09] = .ok (.sbxImm 0x09, []) ∧
  decode [0x9F, 0xFF, 0x12] = .ok (.shaAby 0x12FF, []) ∧ decode [0x1C, 0xFD, 0xDC] = .ok (.nopAbx1C 0xDCFD, []) ∧
  decode [0x02] = .ok (.jam02, [])

/-- When nothing else is due at the boundary, a step is exec of the instruction whose bytes lie at pc. Rests on R13,
R36, R100, R316, R329, 00_scope.md section 5.3. The model's own choices in it: log 13, log 9, log 10, log 14, log 11,
log 28. -/
def Obligations.StepRunsTheDecodedInstruction : Prop :=
  (∀ (s : State) (i : Instr) (rest : List Byte),
    (boundary s).resetLine = false → (boundary s).jammed = false → takesNmi (boundary s) = false →
    takesIrq (boundary s) = false → decode (fetchBytes (boundary s)) = .ok (i, rest) →
    step s = exec i { boundary s with vectored := false }) ∧
  (∀ s : State, s.inputs = [] → boundary s = { s with accesses := [], defer := false, hijack := .none }) ∧
  (∀ (s : State) (e : Input) (es : List Input), s.inputs = e :: es →
    boundary s = { s with
      accesses := [], inputs := es, nmiPending := s.nmiPending || e.nmi, irqLine := e.irq,
      resetLine := s.resetLine || e.reset, P := { s.P with v := s.P.v || (e.so && s.params.hasSo) },
      portIn := e.portIn, exrom := e.exrom, game := e.game, defer := e.defer, hijack := e.hijack })

/-- On plain RAM the step fetches and runs the instruction whose encoding stands in memory at pc, port or no port.
Rests on R9, R13, R60, R62, R71, R80, 20_memory.md sections 1 and 4. The model's own choices in it: log 9, log 13. -/
def Obligations.FetchedBytesArePlacedBytes : Prop :=
  ∀ (s : State) (i : Instr), s.params.platform = .flatRam →
    (∀ n, n < (encode i).length →
      (encode i)[n]? = some (s.ram.read (s.pc + BitVec.ofNat 16 n).toNat) ∧
      ¬(s.params.hasIoPort = true ∧ (s.pc + BitVec.ofNat 16 n = 0x0000 ∨ s.pc + BitVec.ofNat 16 n = 0x0001))) →
    (∃ rest, decode (fetchBytes s) = .ok (i, rest)) ∧
    runInstruction s = exec i (startInstr s) ∧
    (s.inputs = [] → s.resetLine = false → s.jammed = false → s.nmiPending = false → s.irqLine = false →
      step s = exec i { s with accesses := [], defer := false, hijack := .none, vectored := false })

/-- At a boundary: reset first, then nothing if jammed, then NMI, then IRQ if I is clear, then the instruction. Rests
on R316, R325, R336, R37, 60_exceptions.md section 3. The model's own choices in it: log 10, log 13, log 14. -/
def Obligations.BoundaryPriority : Prop :=
  ∀ s : State,
    ((boundary s).resetLine = true → step s = .next (resetSequence (boundary s))) ∧
    ((boundary s).resetLine = false → (boundary s).jammed = true → step s = .next (jamCycle (boundary s))) ∧
    ((boundary s).resetLine = false → (boundary s).jammed = false → (boundary s).defer = false → s.vectored = false →
      (boundary s).nmiPending = true → step s = .next (nmiSequence (boundary s))) ∧
    ((boundary s).resetLine = false → (boundary s).jammed = false → (boundary s).defer = false → s.vectored = false →
      (boundary s).nmiPending = false → (boundary s).irqLine = true → s.P.i = false →
      step s = .next (irqSequence (boundary s))) ∧
    ((boundary s).resetLine = false → (boundary s).jammed = false → (boundary s).nmiPending = false → s.P.i = true →
      step s = runInstruction (boundary s)) ∧
    ((boundary s).resetLine = false → (boundary s).jammed = false → (boundary s).nmiPending = false →
      (boundary s).irqLine = false → step s = runInstruction (boundary s))

/-- No step faults, and a step is refused only on a part without ROR. Rests on R310, R106, R113, 60_exceptions.md
section 1. The model's own choices in it: log 27. -/
def Obligations.StepNeverFaults : Prop :=
  ∀ s : State,
    (s.params.hasRor = true → Completes (step s)) ∧ (∀ f, step s ≠ .fault f) ∧
    (∀ r, step s = .refused r → r = .rorAbsent ∧ s.params.hasRor = false)

/-- The state after reset meets the invariant of the state. Rests on R84, 10_state.md section 7, 20_memory.md section
1. The model's own choices in it: log 29, log 12, log 4. -/
def Obligations.ResetStateMeetsTheInvariant : Prop :=
  State.reset.Inv ∧ Params.legal State.reset.params = true

/-- Every step, from every state that meets the invariant, leaves a state that meets it. Rests on R60, R80,
20_memory.md sections 1 and 7. The model's own choices in it: log 29, log 12. -/
def Obligations.EveryStepKeepsTheInvariant : Prop :=
  ∀ s t : State, s.Inv → step s = .next t → t.Inv

/-- No step changes a parameter of the part or the contents of a ROM. Rests on R7, R89, 00_scope.md section 4,
20_memory.md section 8. -/
def Obligations.StepKeepsParametersAndRoms : Prop :=
  ∀ s t : State, step s = .next t → t.params = s.params ∧ t.roms = s.roms

/-- Every instruction makes as many bus accesses as the cycle table says. Rests on R145, R372, 40_addressing.md
section 8. -/
def Obligations.CyclesFollowTheTable : Prop :=
  ∀ (i : Instr) (s t : State), exec i s = .next t → t.jammed = false →
    t.accesses.length = s.accesses.length + cyclesOf i s ∧ t.tick = s.tick + cyclesOf i s

/-- The write cycles of an instruction are at exactly the addresses its class and mode give, in order. Rests on R8,
R66, R259, R295, R296, R297, R298, 40_addressing.md sections 3 to 7, 41_stack_control.md sections 1 to 3. The model's
own choices in it: log 24. Where SHA, SHX, SHY and SHS store is R295 to R298 and log 24. -/
def Obligations.WriteCyclesAreThoseListed : Prop :=
  ∀ (i : Instr) (s t : State), exec i s = .next t → t.jammed = false →
    ∃ log, t.accesses = s.accesses ++ log ∧ writesIn log = storeAddresses i s

/-- An instruction leaves memory outside the addresses it stores to, the ROMs and the environment as they were. Rests
on R36, R60, R61, R82, R86, R259, R295, R296, R297, R298, R313, R323. The model's own choices in it: log 24, log 41,
log 26. Where SHA, SHX, SHY and SHS store is R295 to R298 and log 24. -/
def Obligations.InstructionFrame : Prop :=
  (∀ (i : Instr) (s t : State), exec i s = .next t →
    (∀ a : Word, a ∉ storeAddresses i s →
      t.ram.read a.toNat = s.ram.read a.toNat ∧ t.colorRam.read a.toNat = s.colorRam.read a.toNat) ∧
    (0x0000 ∉ storeAddresses i s → t.ddr = s.ddr) ∧ (0x0001 ∉ storeAddresses i s → t.prLatch = s.prLatch) ∧
    (s.params.hasIoPort = false → t.ddr = s.ddr ∧ t.prLatch = s.prLatch) ∧ t.roms = s.roms ∧
    (s.params.platform = .flatRam → t.jammed = false → t.device = s.device)) ∧
  (∀ (i : Instr) (s t : State), exec i s = .next t →
    t.irqLine = s.irqLine ∧ t.resetLine = s.resetLine ∧ t.portIn = s.portIn ∧ t.exrom = s.exrom ∧ t.game = s.game ∧
    t.params = s.params ∧ t.inputs = s.inputs ∧ t.defer = s.defer ∧ t.hijack = s.hijack ∧ t.vectored = s.vectored ∧
    (i ≠ .brk → t.nmiPending = s.nmiPending))

/-- D, I, V and S are written by the instructions the spec lists and by no other; no interrupt writes D. Rests on R29,
R30, R26, R43, 10_state.md section 2, R22, R42, R298, R299, 10_state.md sections 1 and 3. -/
def Obligations.OnlyTheseWriteFlagsAndStackPointer : Prop :=
  ((∀ (i : Instr) (s t : State), exec i s = .next t →
    (t.P.d ≠ s.P.d → i = .sed ∨ i = .cld ∨ i = .plp ∨ i = .rti) ∧
    (t.P.i ≠ s.P.i → i = .sei ∨ i = .cli ∨ i = .plp ∨ i = .rti ∨ i = .brk) ∧
    (t.P.v ≠ s.P.v →
      match i with
      | .clv | .plp | .rti | .bitZp _ | .bitAbs _ | .arrImm _ => True
      | .adcImm _ | .adcZp _ | .adcZpx _ | .adcAbs _ | .adcAbx _ | .adcAby _ | .adcIzx _ | .adcIzy _ => True
      | .sbcImm _ | .sbcZp _ | .sbcZpx _ | .sbcAbs _ | .sbcAbx _ | .sbcAby _ | .sbcIzx _ | .sbcIzy _ => True
      | .sbcImmEB _ => True
      | .rraIzx _ | .rraZp _ | .rraAbs _ | .rraIzy _ | .rraZpx _ | .rraAby _ | .rraAbx _ => True
      | .isbIzx _ | .isbZp _ | .isbAbs _ | .isbIzy _ | .isbZpx _ | .isbAby _ | .isbAbx _ => True
      | _ => False)) ∧
  (∀ s : State, (nmiSequence s).P.d = s.P.d ∧ (irqSequence s).P.d = s.P.d ∧ (resetSequence s).P.d = s.P.d)) ∧
  (∀ (i : Instr) (s t : State), exec i s = .next t → t.S ≠ s.S →
    match i with
    | .txs | .pha | .php | .pla | .plp | .rts | .rti | .brk => True
    | .jsr _ | .shsAby _ | .lasAby _ => True
    | _ => False)

/-- Every instruction that does not transfer control leaves pc just past its bytes. Rests on R21, R100, R102, R109,
10_state.md section 1. -/
def Obligations.PcMovesPastTheInstruction : Prop :=
  ∀ (i : Instr) (s t : State), exec i s = .next t → t.jammed = false →
    (match shapeOf i s with
     | .branch _ _ | .brk | .ret | .call | .jump | .jumpIndirect => True
     | _ => t.pc = s.pc + BitVec.ofNat 16 (encode i).length)

/-- The bus sequences of absolute, zero-page and zero-page indexed operands, in all three classes. States R133, R134,
R135. -/
def Obligations.DirectModeSequences : Prop :=
  ∀ (s : State) (b : Byte) (w : Word) (v : Byte) (f : Byte → Byte),
    (let pre := [s.pc, s.pc + 1, s.pc + 2]
     let old := peekAfter pre w s
     readOperand (.abs w) s = (old, afterReads 3 (pre ++ [w]) s) ∧
     modifyOperand (.abs w) f s = (old, memWrite w (f old) (memWrite w old (afterReads 3 (pre ++ [w]) s))) ∧
     writeOperand (.abs w) v s = memWrite w v (afterReads 3 pre s)) ∧
    (let ea := wordOf 0x00 b
     let pre := [s.pc, s.pc + 1]
     let old := peekAfter pre ea s
     readOperand (.zp b) s = (old, afterReads 2 (pre ++ [ea]) s) ∧
     modifyOperand (.zp b) f s = (old, memWrite ea (f old) (memWrite ea old (afterReads 2 (pre ++ [ea]) s))) ∧
     writeOperand (.zp b) v s = memWrite ea v (afterReads 2 pre s)) ∧
    (∀ m ∈ [(MemMode.zpx b, s.X), (MemMode.zpy b, s.Y)],
      let ea := wordOf 0x00 (b + m.2)
      let pre := [s.pc, s.pc + 1, wordOf 0x00 b]
      let old := peekAfter pre ea s
      readOperand m.1 s = (old, afterReads 2 (pre ++ [ea]) s) ∧
      modifyOperand m.1 f s = (old, memWrite ea (f old) (memWrite ea old (afterReads 2 (pre ++ [ea]) s))) ∧
      writeOperand m.1 v s = memWrite ea v (afterReads 2 pre s))

/-- An absolute indexed read reads once without a page crossing, and twice, wrong page first, with one. States R136.
-/
def Obligations.IndexedReadSequence : Prop :=
  ∀ (s : State) (w : Word), ∀ m ∈ [(MemMode.abx w, s.X), (MemMode.aby w, s.Y)],
    let ea1 := wordOf (hi8 w) (lo8 w + m.2)
    let ea := w + zext16 m.2
    let pre := [s.pc, s.pc + 1, s.pc + 2]
    ((lo8 w).toNat + m.2.toNat ≤ 255 →
      readOperand m.1 s = (peekAfter pre ea s, afterReads 3 (pre ++ [ea]) s)) ∧
    (255 < (lo8 w).toNat + m.2.toNat →
      readOperand m.1 s = (peekAfter (pre ++ [ea1]) ea s, afterReads 3 (pre ++ [ea1, ea]) s))

/-- Absolute indexed RMW and store always read the unfixed address first. Rests on R137, R138, 40_addressing.md
section 5. The RMW clause for aby is an inference that R137 itself marks as derived: the source's table names the
index register X only. -/
def Obligations.IndexedModifyAndWriteSequences : Prop :=
  ∀ (s : State) (w : Word) (v : Byte) (f : Byte → Byte), ∀ m ∈ [(MemMode.abx w, s.X), (MemMode.aby w, s.Y)],
    let ea1 := wordOf (hi8 w) (lo8 w + m.2)
    let ea := w + zext16 m.2
    let pre := [s.pc, s.pc + 1, s.pc + 2, ea1]
    let old := peekAfter pre ea s
    modifyOperand m.1 f s = (old, memWrite ea (f old) (memWrite ea old (afterReads 3 (pre ++ [ea]) s))) ∧
    writeOperand m.1 v s = memWrite ea v (afterReads 3 pre s)

/-- The bus sequences of the two indirect modes, in all three classes, with the zero-page wrap of the pointer. States
R140, R141, R142, R143. -/
def Obligations.IndirectModeSequences : Prop :=
  ∀ (s : State) (b v : Byte) (f : Byte → Byte),
    (let lo := wordOf 0x00 (b + s.X)
     let hi := wordOf 0x00 (b + s.X + 1)
     let pre := [s.pc, s.pc + 1, wordOf 0x00 b, lo, hi]
     let ea := wordOf (peekAfter [s.pc, s.pc + 1, wordOf 0x00 b, lo] hi s)
       (peekAfter [s.pc, s.pc + 1, wordOf 0x00 b] lo s)
     let old := peekAfter pre ea s
     readOperand (.izx b) s = (old, afterReads 2 (pre ++ [ea]) s) ∧
     modifyOperand (.izx b) f s = (old, memWrite ea (f old) (memWrite ea old (afterReads 2 (pre ++ [ea]) s))) ∧
     writeOperand (.izx b) v s = memWrite ea v (afterReads 2 pre s)) ∧
    (let base := wordOf (peekAfter [s.pc, s.pc + 1, wordOf 0x00 b] (wordOf 0x00 (b + 1)) s)
       (peekAfter [s.pc, s.pc + 1] (wordOf 0x00 b) s)
     let ea1 := wordOf (hi8 base) (lo8 base + s.Y)
     let ea := base + zext16 s.Y
     let pre := [s.pc, s.pc + 1, wordOf 0x00 b, wordOf 0x00 (b + 1)]
     let old := peekAfter (pre ++ [ea1]) ea s
     ((lo8 base).toNat + s.Y.toNat ≤ 255 →
       readOperand (.izy b) s = (peekAfter pre ea s, afterReads 2 (pre ++ [ea]) s)) ∧
     (255 < (lo8 base).toNat + s.Y.toNat → readOperand (.izy b) s = (old, afterReads 2 (pre ++ [ea1, ea]) s)) ∧
     modifyOperand (.izy b) f s = (old,
       memWrite ea (f old) (memWrite ea old (afterReads 2 (pre ++ [ea1, ea]) s))) ∧
     writeOperand (.izy b) v s = memWrite ea v (afterReads 2 (pre ++ [ea1]) s))

/-- TSX loads X from S, N is its bit 7 and Z that it is zero; TXS loads S from X and writes no flag. States R11, R204,
R205. -/
def Obligations.StackPointerTransfers : Prop :=
  (∀ (v : Byte) (p : Flags), setNZ v p =
    { n := v.getLsbD 7, z := decide (v = 0), v := p.v, d := p.d, i := p.i, c := p.c }) ∧
  (∀ s : State,
    (encode .tsx = [0xBA] ∧ exec .tsx s = .next
      { afterImplied s with X := s.S, P := { s.P with n := s.S.getLsbD 7, z := decide (s.S = 0) } }) ∧
    (encode .txs = [0x9A] ∧ exec .txs s = .next { afterImplied s with S := s.X }))

/-- Transfers, index increments and decrements, and the flag instructions: the one register or flag each writes. Rests
on R131, R200 to R203, R206 to R209, R210 to R216, 42_implied.md. The model's own choices in it: log 19. -/
def Obligations.ImpliedRegisterAndFlagInstructions : Prop :=
  (∀ s : State,
    (encode .tax = [0xAA] ∧ exec .tax s = .next { afterImplied s with X := s.A, P := setNZ s.A s.P }) ∧
    (encode .tay = [0xA8] ∧ exec .tay s = .next { afterImplied s with Y := s.A, P := setNZ s.A s.P }) ∧
    (encode .txa = [0x8A] ∧ exec .txa s = .next { afterImplied s with A := s.X, P := setNZ s.X s.P }) ∧
    (encode .tya = [0x98] ∧ exec .tya s = .next { afterImplied s with A := s.Y, P := setNZ s.Y s.P })) ∧
  (∀ s : State,
    (encode .inx = [0xE8] ∧ exec .inx s = .next { afterImplied s with X := s.X + 1, P := setNZ (s.X + 1) s.P }) ∧
    (encode .iny = [0xC8] ∧ exec .iny s = .next { afterImplied s with Y := s.Y + 1, P := setNZ (s.Y + 1) s.P }) ∧
    (encode .dex = [0xCA] ∧ exec .dex s = .next { afterImplied s with X := s.X - 1, P := setNZ (s.X - 1) s.P }) ∧
    (encode .dey = [0x88] ∧ exec .dey s = .next { afterImplied s with Y := s.Y - 1, P := setNZ (s.Y - 1) s.P })) ∧
  (∀ s : State,
    (encode .clc = [0x18] ∧ exec .clc s = .next { afterImplied s with P := { s.P with c := false } }) ∧
    (encode .sec = [0x38] ∧ exec .sec s = .next { afterImplied s with P := { s.P with c := true } }) ∧
    (encode .cli = [0x58] ∧ exec .cli s = .next { afterImplied s with P := { s.P with i := false } }) ∧
    (encode .sei = [0x78] ∧ exec .sei s = .next { afterImplied s with P := { s.P with i := true } }) ∧
    (encode .clv = [0xB8] ∧ exec .clv s = .next { afterImplied s with P := { s.P with v := false } }) ∧
    (encode .cld = [0xD8] ∧ exec .cld s = .next { afterImplied s with P := { s.P with d := false } }) ∧
    (encode .sed = [0xF8] ∧ exec .sed s = .next { afterImplied s with P := { s.P with d := true } }))

/-- NOP in every mode reads as a load does and changes nothing but pc. States R217, R300. -/
def Obligations.NopsChangeNothing : Prop :=
  ∀ (s : State) (v b : Byte) (w : Word),
    (∀ f ∈ ([(0x1A, .nopImp1A), (0x3A, .nopImp3A), (0x5A, .nopImp5A), (0x7A, .nopImp7A),
      (0xDA, .nopImpDA), (0xEA, .nop), (0xFA, .nopImpFA)] : List (Byte × Instr)),
      encode f.2 = [f.1] ∧ exec f.2 s = .next (afterReads 1 [s.pc, s.pc + 1] s)) ∧
    (∀ f ∈ ([(0x80, .nopImm80 v), (0x89, .nopImm89 v)] : List (Byte × Instr)),
      encode f.2 = [f.1, v] ∧ exec f.2 s = .next (afterReads 2 [s.pc, s.pc + 1] s)) ∧
    (∀ f ∈ ([(0x04, .nopZp04 b, .zp b), (0x0C, .nopAbs0C w, .abs w), (0x14, .nopZpx14 b, .zpx b),
      (0x1C, .nopAbx1C w, .abx w), (0x34, .nopZpx34 b, .zpx b), (0x3C, .nopAbx3C w, .abx w),
      (0x44, .nopZp44 b, .zp b), (0x54, .nopZpx54 b, .zpx b), (0x5C, .nopAbx5C w, .abx w),
      (0x64, .nopZp64 b, .zp b), (0x74, .nopZpx74 b, .zpx b), (0x7C, .nopAbx7C w, .abx w),
      (0xD4, .nopZpxD4 b, .zpx b), (0xDC, .nopAbxDC w, .abx w), (0xF4, .nopZpxF4 b, .zpx b),
      (0xFC, .nopAbxFC w, .abx w)] :
      List (Byte × Instr × MemMode)),
      (encode f.2.1).head? = some f.1 ∧ exec f.2.1 s = .next (afterReads (modeLength f.2.2) (readReads f.2.2 s) s))

/-- LDA, LDX and LDY load the operand byte, N is its bit 7, Z that it is zero, and nothing else changes. States R11,
R230, R231, R232. -/
def Obligations.LoadsReplaceTheRegister : Prop :=
  ∀ (s : State) (v b : Byte) (w : Word),
    (encode (.ldaImm v) = [0xA9, v] ∧
      exec (.ldaImm v) s = .next { afterImmediate s with
        A := v, P := { s.P with n := v.getLsbD 7, z := decide (v = 0) } }) ∧
    (∀ f ∈ ([(0xA1, .ldaIzx b, .izx b), (0xA5, .ldaZp b, .zp b), (0xAD, .ldaAbs w, .abs w), (0xB1, .ldaIzy b, .izy b),
      (0xB5, .ldaZpx b, .zpx b), (0xB9, .ldaAby w, .aby w), (0xBD, .ldaAbx w, .abx w)] :
      List (Byte × Instr × MemMode)),
      (encode f.2.1).head? = some f.1 ∧
      let m := operandByte f.2.2 s
      exec f.2.1 s = .next { afterRead f.2.2 s with A := m, P := { s.P with n := m.getLsbD 7, z := decide (m = 0) } }) ∧
    (encode (.ldxImm v) = [0xA2, v] ∧
      exec (.ldxImm v) s = .next { afterImmediate s with
        X := v, P := { s.P with n := v.getLsbD 7, z := decide (v = 0) } }) ∧
    (∀ f ∈ ([(0xA6, .ldxZp b, .zp b), (0xAE, .ldxAbs w, .abs w), (0xB6, .ldxZpy b, .zpy b), (0xBE, .ldxAby w, .aby w)] :
      List (Byte × Instr × MemMode)),
      (encode f.2.1).head? = some f.1 ∧
      let m := operandByte f.2.2 s
      exec f.2.1 s = .next { afterRead f.2.2 s with X := m, P := { s.P with n := m.getLsbD 7, z := decide (m = 0) } }) ∧
    (encode (.ldyImm v) = [0xA0, v] ∧
      exec (.ldyImm v) s = .next { afterImmediate s with
        Y := v, P := { s.P with n := v.getLsbD 7, z := decide (v = 0) } }) ∧
    (∀ f ∈ ([(0xA4, .ldyZp b, .zp b), (0xAC, .ldyAbs w, .abs w), (0xB4, .ldyZpx b, .zpx b), (0xBC, .ldyAbx w, .abx w)] :
      List (Byte × Instr × MemMode)),
      (encode f.2.1).head? = some f.1 ∧
      let m := operandByte f.2.2 s
      exec f.2.1 s = .next { afterRead f.2.2 s with Y := m, P := { s.P with n := m.getLsbD 7, z := decide (m = 0) } })

/-- ORA, AND and EOR combine A with the operand byte bit by bit and set N and Z. Rests on R233, R234, R235, 43_read.md
section 2. The model's own choices in it: log 19. -/
def Obligations.LogicCombinesWithTheAccumulator : Prop :=
  ∀ (s : State) (v b : Byte) (w : Word),
    (encode (.oraImm v) = [0x09, v] ∧
      exec (.oraImm v) s = .next { afterImmediate s with A := s.A ||| v, P := setNZ (s.A ||| v) s.P }) ∧
    (∀ f ∈ ([(0x01, .oraIzx b, .izx b), (0x05, .oraZp b, .zp b), (0x0D, .oraAbs w, .abs w), (0x11, .oraIzy b, .izy b),
      (0x15, .oraZpx b, .zpx b), (0x19, .oraAby w, .aby w), (0x1D, .oraAbx w, .abx w)] :
      List (Byte × Instr × MemMode)),
      (encode f.2.1).head? = some f.1 ∧
      let m := operandByte f.2.2 s
      exec f.2.1 s = .next { afterRead f.2.2 s with A := s.A ||| m, P := setNZ (s.A ||| m) s.P }) ∧
    (encode (.andImm v) = [0x29, v] ∧
      exec (.andImm v) s = .next { afterImmediate s with A := s.A &&& v, P := setNZ (s.A &&& v) s.P }) ∧
    (∀ f ∈ ([(0x21, .andIzx b, .izx b), (0x25, .andZp b, .zp b), (0x2D, .andAbs w, .abs w), (0x31, .andIzy b, .izy b),
      (0x35, .andZpx b, .zpx b), (0x39, .andAby w, .aby w), (0x3D, .andAbx w, .abx w)] :
      List (Byte × Instr × MemMode)),
      (encode f.2.1).head? = some f.1 ∧
      let m := operandByte f.2.2 s
      exec f.2.1 s = .next { afterRead f.2.2 s with A := s.A &&& m, P := setNZ (s.A &&& m) s.P }) ∧
    (encode (.eorImm v) = [0x49, v] ∧
      exec (.eorImm v) s = .next { afterImmediate s with A := s.A ^^^ v, P := setNZ (s.A ^^^ v) s.P }) ∧
    (∀ f ∈ ([(0x41, .eorIzx b, .izx b), (0x45, .eorZp b, .zp b), (0x4D, .eorAbs w, .abs w), (0x51, .eorIzy b, .izy b),
      (0x55, .eorZpx b, .zpx b), (0x59, .eorAby w, .aby w), (0x5D, .eorAbx w, .abx w)] :
      List (Byte × Instr × MemMode)),
      (encode f.2.1).head? = some f.1 ∧
      let m := operandByte f.2.2 s
      exec f.2.1 s = .next { afterRead f.2.2 s with A := s.A ^^^ m, P := setNZ (s.A ^^^ m) s.P })

/-- AddBinary: eight result bits, C the ninth bit, V set exactly when the signed sum does not fit, N and Z of the
result. Rests on R237, R238, 43_read.md section 3. The model's own choices in it: log 19. That the bit formula of V
says this is marked derived in R238, and the complement form of subtraction is general knowledge in R237. -/
def Obligations.BinaryAdditionIsExact : Prop :=
  (∀ (a m : Byte) (c : Bool),
    (addBinary a m c).val.toNat = (a.toNat + m.toNat + c.toNat) % 256 ∧
    ((addBinary a m c).c = true ↔ 256 ≤ a.toNat + m.toNat + c.toNat) ∧
    ((addBinary a m c).v = true ↔ a.toInt + m.toInt + c.toNat < -128 ∨ 127 < a.toInt + m.toInt + c.toNat) ∧
    (addBinary a m c).n = (addBinary a m c).val.getLsbD 7 ∧ ((addBinary a m c).z = true ↔ (addBinary a m c).val = 0)) ∧
  (∀ (a m : Byte) (c : Bool),
    ((addBinary a (~~~m) c).val.toNat : Int) = ((a.toNat : Int) - m.toNat - (1 - c.toNat)) % 256 ∧
    ((addBinary a (~~~m) c).c = true ↔ (0 : Int) ≤ (a.toNat : Int) - m.toNat - (1 - c.toNat)) ∧
    ((addBinary a (~~~m) c).v = true ↔
      a.toInt - m.toInt - (1 - c.toNat) < -128 ∨ 127 < a.toInt - m.toInt - (1 - c.toNat)))

/-- ADC and SBC put the sum or difference in A and write N, V, Z and C, in binary or decimal mode as D says. Rests on
R236, R237, R240, R241, R294, 43_read.md section 3. The model's own choices in it: log 20, log 18. -/
def Obligations.AdditionAndSubtraction : Prop :=
  (∀ (s : State) (v b : Byte) (w : Word),
    let sum := fun m => if s.P.d then decAdc s.A m s.P.c else addBinary s.A m s.P.c
    let new := fun m => { s.P with n := (sum m).n, v := (sum m).v, z := (sum m).z, c := (sum m).c }
    (encode (.adcImm v) = [0x69, v] ∧
      exec (.adcImm v) s = .next { afterImmediate s with A := (sum v).val, P := new v }) ∧
    (∀ f ∈ ([(0x61, .adcIzx b, .izx b), (0x65, .adcZp b, .zp b), (0x6D, .adcAbs w, .abs w), (0x71, .adcIzy b, .izy b),
      (0x75, .adcZpx b, .zpx b), (0x79, .adcAby w, .aby w), (0x7D, .adcAbx w, .abx w)] :
      List (Byte × Instr × MemMode)),
      (encode f.2.1).head? = some f.1 ∧
      let m := operandByte f.2.2 s
      exec f.2.1 s = .next { afterRead f.2.2 s with A := (sum m).val, P := new m })) ∧
  (∀ (s : State) (v b : Byte) (w : Word),
    let sum := fun m => if s.P.d then decSbc s.A m s.P.c else addBinary s.A (~~~m) s.P.c
    let new := fun m => { s.P with n := (sum m).n, v := (sum m).v, z := (sum m).z, c := (sum m).c }
    (encode (.sbcImm v) = [0xE9, v] ∧
      exec (.sbcImm v) s = .next { afterImmediate s with A := (sum v).val, P := new v }) ∧
    (encode (.sbcImmEB v) = [0xEB, v] ∧
      exec (.sbcImmEB v) s = .next { afterImmediate s with A := (sum v).val, P := new v }) ∧
    (∀ f ∈ ([(0xE1, .sbcIzx b, .izx b), (0xE5, .sbcZp b, .zp b), (0xED, .sbcAbs w, .abs w), (0xF1, .sbcIzy b, .izy b),
      (0xF5, .sbcZpx b, .zpx b), (0xF9, .sbcAby w, .aby w), (0xFD, .sbcAbx w, .abx w)] :
      List (Byte × Instr × MemMode)),
      (encode f.2.1).head? = some f.1 ∧
      let m := operandByte f.2.2 s
      exec f.2.1 s = .next { afterRead f.2.2 s with A := (sum m).val, P := new m }))

/-- On valid BCD operands decimal addition and subtraction give the BCD result and its carry or borrow. Rests on R240,
43_read.md section 3, R241. The model's own choices in it: log 18. -/
def Obligations.DecimalModeOnBcd : Prop :=
  (∀ (x y : Fin 100) (c : Bool),
    let bcd := fun n : Nat => BitVec.ofNat 8 (n / 10 * 16 + n % 10)
    (decAdc (bcd x) (bcd y) c).val = bcd ((x + y + c.toNat) % 100) ∧
    ((decAdc (bcd x) (bcd y) c).c = true ↔ 100 ≤ x.val + y.val + c.toNat) ∧
    (decAdc (bcd x) (bcd y) c).z = (addBinary (bcd x) (bcd y) c).z) ∧
  ((∀ (x y : Fin 100) (c : Bool),
    let bcd := fun n : Nat => BitVec.ofNat 8 (n / 10 * 16 + n % 10)
    (decSbc (bcd x) (bcd y) c).val = bcd ((x.val + 100 + c.toNat - y.val - 1) % 100) ∧
    ((decSbc (bcd x) (bcd y) c).c = true ↔ y.val + 1 ≤ x.val + c.toNat)) ∧
  (∀ (a m : Byte) (c : Bool),
    (decSbc a m c).n = (addBinary a (~~~m) c).n ∧ (decSbc a m c).v = (addBinary a (~~~m) c).v ∧
    (decSbc a m c).z = (addBinary a (~~~m) c).z ∧ (decSbc a m c).c = (addBinary a (~~~m) c).c))

/-- CMP, CPX and CPY set C, N, Z from the difference and store nothing; BIT sets N, V, Z from the operand. Rests on
R239, R242, R243, R244, 43_read.md section 4, R245. The model's own choices in it: log 19. -/
def Obligations.ComparisonsAndBit : Prop :=
  (∀ (s : State) (v b : Byte) (w : Word),
    (encode (.cmpImm v) = [0xC9, v] ∧ exec (.cmpImm v) s = .next { afterImmediate s with
      P := { setNZ (s.A - v) s.P with c := decide (v.toNat ≤ s.A.toNat) } }) ∧
    (∀ f ∈ ([(0xC1, .cmpIzx b, .izx b), (0xC5, .cmpZp b, .zp b), (0xCD, .cmpAbs w, .abs w), (0xD1, .cmpIzy b, .izy b),
      (0xD5, .cmpZpx b, .zpx b), (0xD9, .cmpAby w, .aby w), (0xDD, .cmpAbx w, .abx w)] :
      List (Byte × Instr × MemMode)),
      (encode f.2.1).head? = some f.1 ∧
      let m := operandByte f.2.2 s
      exec f.2.1 s = .next { afterRead f.2.2 s with
          P := { setNZ (s.A - m) s.P with c := decide (m.toNat ≤ s.A.toNat) } }) ∧
    (encode (.cpxImm v) = [0xE0, v] ∧ exec (.cpxImm v) s = .next { afterImmediate s with
      P := { setNZ (s.X - v) s.P with c := decide (v.toNat ≤ s.X.toNat) } }) ∧
    (∀ f ∈ ([(0xE4, .cpxZp b, .zp b), (0xEC, .cpxAbs w, .abs w)] :
      List (Byte × Instr × MemMode)),
      (encode f.2.1).head? = some f.1 ∧
      let m := operandByte f.2.2 s
      exec f.2.1 s = .next { afterRead f.2.2 s with
          P := { setNZ (s.X - m) s.P with c := decide (m.toNat ≤ s.X.toNat) } }) ∧
    (encode (.cpyImm v) = [0xC0, v] ∧ exec (.cpyImm v) s = .next { afterImmediate s with
      P := { setNZ (s.Y - v) s.P with c := decide (v.toNat ≤ s.Y.toNat) } }) ∧
    (∀ f ∈ ([(0xC4, .cpyZp b, .zp b), (0xCC, .cpyAbs w, .abs w)] :
      List (Byte × Instr × MemMode)),
      (encode f.2.1).head? = some f.1 ∧
      let m := operandByte f.2.2 s
      exec f.2.1 s = .next { afterRead f.2.2 s with
          P := { setNZ (s.Y - m) s.P with c := decide (m.toNat ≤ s.Y.toNat) } })) ∧
  (∀ (s : State) (b : Byte) (w : Word),
    (∀ f ∈ ([(0x24, .bitZp b, .zp b), (0x2C, .bitAbs w, .abs w)] :
      List (Byte × Instr × MemMode)),
      (encode f.2.1).head? = some f.1 ∧
      let m := operandByte f.2.2 s
      exec f.2.1 s = .next { afterRead f.2.2 s with
          P := { s.P with n := m.getLsbD 7, v := m.getLsbD 6, z := s.A &&& m == 0 } }))

/-- ASL, LSR and ROL move one bit, put the bit shifted out in C and set N and Z, in A or in memory. States R250, R251,
R252. -/
def Obligations.ShiftsAndRotatesLeftAndLsr : Prop :=
  ∀ (s : State) (b : Byte) (w : Word),
    (let old := s.A
     let new := old <<< 1
     encode .aslAcc = [0x0A] ∧
     exec .aslAcc s = .next { afterImplied s with A := new, P := { setNZ new s.P with c := old.getLsbD 7 } }) ∧
    (∀ f ∈ ([(0x06, .aslZp b, .zp b), (0x0E, .aslAbs w, .abs w), (0x16, .aslZpx b, .zpx b), (0x1E, .aslAbx w, .abx w)] :
      List (Byte × Instr × MemMode)),
      (encode f.2.1).head? = some f.1 ∧
      let old := oldByte f.2.2 s
      let new := old <<< 1
      exec f.2.1 s = .next { modified f.2.2 new s with P := { setNZ new s.P with c := old.getLsbD 7 } }) ∧
    (let old := s.A
     let new := old >>> 1
     encode .lsrAcc = [0x4A] ∧
     exec .lsrAcc s = .next { afterImplied s with A := new, P := { setNZ new s.P with c := old.getLsbD 0 } }) ∧
    (∀ f ∈ ([(0x46, .lsrZp b, .zp b), (0x4E, .lsrAbs w, .abs w), (0x56, .lsrZpx b, .zpx b), (0x5E, .lsrAbx w, .abx w)] :
      List (Byte × Instr × MemMode)),
      (encode f.2.1).head? = some f.1 ∧
      let old := oldByte f.2.2 s
      let new := old >>> 1
      exec f.2.1 s = .next { modified f.2.2 new s with P := { setNZ new s.P with c := old.getLsbD 0 } }) ∧
    (let old := s.A
     let new := (old <<< 1) ||| (if s.P.c then 0x01 else 0x00)
     encode .rolAcc = [0x2A] ∧
     exec .rolAcc s = .next { afterImplied s with A := new, P := { setNZ new s.P with c := old.getLsbD 7 } }) ∧
    (∀ f ∈ ([(0x26, .rolZp b, .zp b), (0x2E, .rolAbs w, .abs w), (0x36, .rolZpx b, .zpx b), (0x3E, .rolAbx w, .abx w)] :
      List (Byte × Instr × MemMode)),
      (encode f.2.1).head? = some f.1 ∧
      let old := oldByte f.2.2 s
      let new := (old <<< 1) ||| (if s.P.c then 0x01 else 0x00)
      exec f.2.1 s = .next { modified f.2.2 new s with P := { setNZ new s.P with c := old.getLsbD 7 } })

/-- On a part with ROR, ROR rotates right through C and sets N (the old C), Z and C. States R253. -/
def Obligations.RotateRightOnRorParts : Prop :=
  ∀ (s : State) (b : Byte) (w : Word), s.params.hasRor = true →
    (let old := s.A
     let new := (old >>> 1) ||| (if s.P.c then 0x80 else 0x00)
     encode .rorAcc = [0x6A] ∧
     exec .rorAcc s = .next { afterImplied s with A := new, P := { setNZ new s.P with c := old.getLsbD 0 } }) ∧
    (∀ f ∈ ([(0x66, .rorZp b, .zp b), (0x6E, .rorAbs w, .abs w), (0x76, .rorZpx b, .zpx b), (0x7E, .rorAbx w, .abx w)] :
      List (Byte × Instr × MemMode)),
      (encode f.2.1).head? = some f.1 ∧
      let old := oldByte f.2.2 s
      let new := (old >>> 1) ||| (if s.P.c then 0x80 else 0x00)
      exec f.2.1 s = .next { modified f.2.2 new s with P := { setNZ new s.P with c := old.getLsbD 0 } })

/-- On a part without ROR the ROR, RRA and ARR opcodes are refused, and no other instruction is. Rests on R113,
93_implementation_defined.md, 92_eei_decisions.md. The model's own choices in it: log 27. -/
def Obligations.RorFamilyStopsWithoutRor : Prop :=
  ∀ (s : State) (i : Instr), s.params.hasRor = false →
    (i.usesRor = true → exec i s = .refused .rorAbsent) ∧ (i.usesRor = false → Completes (exec i s))

/-- INC and DEC step the byte modulo 256 with the write-back of the old byte first, and set N and Z only. Rests on
R254, R255, R259, 44_rmw_write.md section 3. The model's own choices in it: log 19. -/
def Obligations.MemoryIncrementsAndDecrements : Prop :=
  ∀ (s : State) (b : Byte) (w : Word),
    (∀ f ∈ ([(0xE6, .incZp b, .zp b), (0xEE, .incAbs w, .abs w), (0xF6, .incZpx b, .zpx b), (0xFE, .incAbx w, .abx w)] :
      List (Byte × Instr × MemMode)),
      (encode f.2.1).head? = some f.1 ∧
      let old := oldByte f.2.2 s
      let new := old + 1
      exec f.2.1 s = .next { modified f.2.2 new s with P := setNZ new s.P }) ∧
    (∀ f ∈ ([(0xC6, .decZp b, .zp b), (0xCE, .decAbs w, .abs w), (0xD6, .decZpx b, .zpx b), (0xDE, .decAbx w, .abx w)] :
      List (Byte × Instr × MemMode)),
      (encode f.2.1).head? = some f.1 ∧
      let old := oldByte f.2.2 s
      let new := old - 1
      exec f.2.1 s = .next { modified f.2.2 new s with P := setNZ new s.P })

/-- STA, STX and STY write the register at the effective address and change no register and no flag. States R256,
R257, R258. -/
def Obligations.StoresWriteTheRegister : Prop :=
  ∀ (s : State) (b : Byte) (w : Word),
    (∀ f ∈ ([(0x81, .staIzx b, .izx b), (0x85, .staZp b, .zp b), (0x8D, .staAbs w, .abs w), (0x91, .staIzy b, .izy b),
      (0x95, .staZpx b, .zpx b), (0x99, .staAby w, .aby w), (0x9D, .staAbx w, .abx w)] :
      List (Byte × Instr × MemMode)),
      (encode f.2.1).head? = some f.1 ∧ exec f.2.1 s = .next (stored f.2.2 s.A s)) ∧
    (∀ f ∈ ([(0x86, .stxZp b, .zp b), (0x8E, .stxAbs w, .abs w), (0x96, .stxZpy b, .zpy b)] :
      List (Byte × Instr × MemMode)),
      (encode f.2.1).head? = some f.1 ∧ exec f.2.1 s = .next (stored f.2.2 s.X s)) ∧
    (∀ f ∈ ([(0x84, .styZp b, .zp b), (0x8C, .styAbs w, .abs w), (0x94, .styZpx b, .zpx b)] :
      List (Byte × Instr × MemMode)),
      (encode f.2.1).head? = some f.1 ∧ exec f.2.1 s = .next (stored f.2.2 s.Y s))

/-- A write cycle to RAM, with or without the port, changes the byte at its address and no other, and is read back.
Rests on R60, R61, R67, R68, R80, 20_memory.md sections 1, 5 and 8. -/
def Obligations.AWriteReachesOneByte : Prop :=
  ∀ (s : State) (a : Word) (v : Byte), ¬(s.params.hasIoPort = true ∧ (a = 0x0000 ∨ a = 0x0001)) →
    (memWrite a v s).accesses = s.accesses ++ [.write a v] ∧
    (memWrite a v s).ddr = s.ddr ∧ (memWrite a v s).prLatch = s.prLatch ∧
    (s.params.platform = .flatRam → peek a (memWrite a v s) = v ∧
      ∀ x : Word, x ≠ a → ¬(s.params.hasIoPort = true ∧ (x = 0x0000 ∨ x = 0x0001)) →
        peek x (memWrite a v s) = peek x s) ∧
    (s.params.platform = .commodore64 → currentRegion s a = .ram → peek a (memWrite a v s) = v ∧
      ∀ x : Word, x ≠ a → (memWrite a v s).ram.read x.toNat = s.ram.read x.toNat)

/-- A branch not taken, taken within the page, and taken to another page: the reads and the new pc. Rests on R139,
R180, R181, R183, R185, R186, R187, R188, 40_addressing.md section 6. The model's own choices in it: log 19. -/
def Obligations.BranchSequences : Prop :=
  ∀ (s : State) (off : Byte),
    let target := s.pc + 2 + sext16 off
    ∀ f ∈ ([(0x10, .bpl off, !s.P.n), (0x30, .bmi off, s.P.n), (0x50, .bvc off, !s.P.v), (0x70, .bvs off, s.P.v),
      (0x90, .bcc off, !s.P.c), (0xB0, .bcs off, s.P.c), (0xD0, .bne off, !s.P.z), (0xF0, .beq off, s.P.z)] :
        List (Byte × Instr × Bool)),
      encode f.2.1 = [f.1, off] ∧
      (f.2.2 = false → exec f.2.1 s = .next (afterReads 2 [s.pc, s.pc + 1] s)) ∧
      (f.2.2 = true → hi8 target = hi8 (s.pc + 2) →
        exec f.2.1 s = .next { afterReads 2 [s.pc, s.pc + 1, s.pc + 2] s with pc := target }) ∧
      (f.2.2 = true → hi8 target ≠ hi8 (s.pc + 2) →
        exec f.2.1 s = .next
          { afterReads 2 [s.pc, s.pc + 1, s.pc + 2, wordOf (hi8 (s.pc + 2)) (lo8 target)] s with pc := target })

/-- JMP loads pc with its operand, or with the word at the pointer whose high byte never leaves the page. States R178,
R179, R144. -/
def Obligations.JumpsLoadPc : Prop :=
  ∀ (s : State) (w p : Word),
    (encode (.jmpAbs w) = [0x4C, lo8 w, hi8 w] ∧
     exec (.jmpAbs w) s = .next { afterReads 3 [s.pc, s.pc + 1, s.pc + 2] s with pc := w }) ∧
    (let highAt := wordOf (hi8 p) (lo8 p + 1)
     encode (.jmpInd p) = [0x6C, lo8 p, hi8 p] ∧
     exec (.jmpInd p) s = .next { afterReads 3 [s.pc, s.pc + 1, s.pc + 2, p, highAt] s with
       pc := wordOf (peekAfter [s.pc, s.pc + 1, s.pc + 2, p] highAt s)
         (peekAfter [s.pc, s.pc + 1, s.pc + 2] p s) })

/-- JSR pushes the address of its third byte and jumps, its high byte read after the pushes. Rests on R177, R62,
41_stack_control.md section 3. The model's own choices in it: log 37. -/
def Obligations.JsrPushesAndJumps : Prop :=
  (∀ (s : State) (w : Word),
    let t := memWrite (wordOf 0x01 (s.S - 1)) (lo8 (s.pc + 2))
      (memWrite (wordOf 0x01 s.S) (hi8 (s.pc + 2)) (afterReads 2 [s.pc, s.pc + 1, wordOf 0x01 s.S] s))
    encode (.jsr w) = [0x20, lo8 w, hi8 w] ∧
    exec (.jsr w) s = .next { afterReads 0 [s.pc + 2] t with
      S := s.S - 2, pc := wordOf (peek (s.pc + 2) t) (lo8 w) }) ∧
  (∀ (s t : State) (w : Word), s.params.platform = .flatRam → s.params.hasIoPort = false →
    s.ram.read (s.pc + 2).toNat = hi8 w → s.pc + 2 ≠ wordOf 0x01 s.S → s.pc + 2 ≠ wordOf 0x01 (s.S - 1) →
    exec (.jsr w) s = .next t → t.pc = w)

/-- RTS resumes one past the pulled address; RTI restores the flags and resumes exactly at it. States R172, R171. -/
def Obligations.ReturnsPullPc : Prop :=
  (∀ s : State,
    let at1 := wordOf 0x01 (s.S + 1)
    let at2 := wordOf 0x01 (s.S + 2)
    let pre := [s.pc, s.pc + 1, wordOf 0x01 s.S]
    let back := wordOf (peekAfter (pre ++ [at1]) at2 s) (peekAfter pre at1 s)
    encode .rts = [0x60] ∧
    exec .rts s = .next { afterReads 1 (pre ++ [at1, at2, back]) s with
      S := s.S + 2, pc := back + 1 }) ∧
  (∀ s : State,
    let at1 := wordOf 0x01 (s.S + 1)
    let at2 := wordOf 0x01 (s.S + 2)
    let at3 := wordOf 0x01 (s.S + 3)
    let pre := [s.pc, s.pc + 1, wordOf 0x01 s.S]
    let p := peekAfter pre at1 s
    encode .rti = [0x40] ∧
    exec .rti s = .next { afterReads 1 (pre ++ [at1, at2, at3]) s with
      S := s.S + 3,
      P := { n := p.getLsbD 7, v := p.getLsbD 6, d := p.getLsbD 3, i := p.getLsbD 2, z := p.getLsbD 1,
             c := p.getLsbD 0 },
      pc := wordOf (peekAfter (pre ++ [at1, at2]) at3 s) (peekAfter (pre ++ [at1]) at2 s) })

/-- PHA and PHP push A or the image of P with bits 4 and 5 set; PLA and PLP pull A or the six flags. States R173,
R174, R175, R176. -/
def Obligations.PushesAndPulls : Prop :=
  (∀ s : State,
    (encode .pha = [0x48] ∧
     exec .pha s = .next { memWrite (wordOf 0x01 s.S) s.A (afterImplied s) with S := s.S - 1 }) ∧
    (encode .php = [0x08] ∧
     exec .php s = .next { memWrite (wordOf 0x01 s.S)
       (BitVec.ofNat 8 (128 * s.P.n.toNat + 64 * s.P.v.toNat + 32 + 16 + 8 * s.P.d.toNat + 4 * s.P.i.toNat +
         2 * s.P.z.toNat + s.P.c.toNat)) (afterImplied s) with S := s.S - 1 })) ∧
  (∀ s : State,
    let from1 := wordOf 0x01 (s.S + 1)
    let p := peekAfter [s.pc, s.pc + 1, wordOf 0x01 s.S] from1 s
    let t := afterReads 1 [s.pc, s.pc + 1, wordOf 0x01 s.S, from1] s
    (encode .pla = [0x68] ∧ exec .pla s = .next { t with S := s.S + 1, A := p, P := setNZ p s.P }) ∧
    (encode .plp = [0x28] ∧ exec .plp s = .next { t with
      S := s.S + 1,
      P := { n := p.getLsbD 7, v := p.getLsbD 6, d := p.getLsbD 3, i := p.getLsbD 2, z := p.getLsbD 1,
             c := p.getLsbD 0 } }))

/-- BRK pushes pc + 2 and P with B set, sets I and jumps through its vector, or NMI's when an NMI overtakes it. Rests
on R170, R323, R321, R62, 41_stack_control.md section 1. The model's own choices in it: log 16. -/
def Obligations.BrkTakesItsInterrupt : Prop :=
  ∀ s : State,
    let p1 : Byte := BitVec.ofNat 8 (128 * s.P.n.toNat + 64 * s.P.v.toNat + 32 + 16 +
      8 * s.P.d.toNat + 4 * s.P.i.toNat + 2 * s.P.z.toNat + s.P.c.toNat)
    let t := memWrite (wordOf 0x01 (s.S - 2)) p1 (memWrite (wordOf 0x01 (s.S - 1)) (lo8 (s.pc + 2))
      (memWrite (wordOf 0x01 s.S) (hi8 (s.pc + 2)) (afterReads 2 [s.pc, s.pc + 1] s)))
    encode .brk = [0x00] ∧
    (s.hijack ≠ .nmi → exec .brk s = .next { afterReads 0 [0xFFFE, 0xFFFF] t with
      S := s.S - 3, P := { s.P with i := true }, pc := wordOf (peekAfter [0xFFFE] 0xFFFF t) (peek 0xFFFE t) }) ∧
    (s.hijack = .nmi → exec .brk s = .next { afterReads 0 [0xFFFA, 0xFFFB] t with
      S := s.S - 3, P := { s.P with i := true }, nmiPending := false,
      pc := wordOf (peekAfter [0xFFFA] 0xFFFB t) (peek 0xFFFA t) })

/-- IRQ and NMI push pc and P with B clear and jump through FFFE and FFFA; IRQ sets I, NMI as its parameter says.
Rests on R320, R321, R322, 60_exceptions.md section 4. The model's own choices in it: log 17, log 15. -/
def Obligations.InterruptSequences : Prop :=
  ∀ s : State,
    let p1 : Byte := BitVec.ofNat 8 (128 * s.P.n.toNat + 64 * s.P.v.toNat + 32 +
      8 * s.P.d.toNat + 4 * s.P.i.toNat + 2 * s.P.z.toNat + s.P.c.toNat)
    let t := memWrite (wordOf 0x01 (s.S - 2)) p1 (memWrite (wordOf 0x01 (s.S - 1)) (lo8 s.pc)
      (memWrite (wordOf 0x01 s.S) (hi8 s.pc) (afterReads 0 [s.pc, s.pc] s)))
    irqSequence s = { afterReads 0 [0xFFFE, 0xFFFF] t with
      S := s.S - 3, P := { s.P with i := true }, vectored := true,
      pc := wordOf (peekAfter [0xFFFE] 0xFFFF t) (peek 0xFFFE t) } ∧
    nmiSequence s = { afterReads 0 [0xFFFA, 0xFFFB] t with
      S := s.S - 3, P := { s.P with i := s.P.i || s.params.nmiSetsI }, vectored := true, nmiPending := false,
      pc := wordOf (peekAfter [0xFFFA] 0xFFFB t) (peek 0xFFFA t) }

/-- On plain RAM the handler finds P, the return address low and high above S, modulo 256 within page 1. Rests on
R324, R22, 60_exceptions.md section 4. -/
def Obligations.HandlerFindsTheFrame : Prop :=
  ∀ (s : State) (b setI : Bool) (vector : Word), s.params.platform = .flatRam →
    let t := takeException b setI vector s
    t.S = s.S - 3 ∧ t.ram.read (wordOf 0x01 (t.S + 1)).toNat = statusByte b s.P ∧
    t.ram.read (wordOf 0x01 (t.S + 2)).toNat = lo8 s.pc ∧ t.ram.read (wordOf 0x01 (t.S + 3)).toNat = hi8 s.pc

/-- On plain RAM the return undoes the entry: pc, S, all six flags, A, X and Y are those of the interrupted code.
Rests on R324, R326, R171, R320, 60_exceptions.md section 6. -/
def Obligations.ReturnUndoesEntry : Prop :=
  ∀ (s : State) (b setI : Bool) (vector : Word), s.params.platform = .flatRam →
    let r := returnFromException (takeException b setI vector s)
    r.pc = s.pc ∧ r.S = s.S ∧ r.P = s.P ∧ r.A = s.A ∧ r.X = s.X ∧ r.Y = s.Y

/-- The reset sequence clears the jam, the pending NMI and DDR, keeps A, X, Y and the other flags, and loads pc. Rests
on R350, R352, R354, R40, R84, 70_reset_and_hazards.md section 1. The model's own choices in it: log 6, log 12, log
43. -/
def Obligations.ResetSequenceEffects : Prop :=
  ∀ s : State,
    let t := resetSequence s
    t.jammed = false ∧ t.nmiPending = false ∧ t.resetLine = false ∧ t.ddr = 0 ∧ t.A = s.A ∧ t.X = s.X ∧ t.Y = s.Y ∧
    t.P = { s.P with i := t.P.i } ∧ t.ram = s.ram ∧ t.colorRam = s.colorRam ∧
    ∃ as : List Word, as.length ≤ 5 ∧
      (let u := { s with ddr := 0, prLatch := t.prLatch, device := Config.deviceAfterReset s.device s.tick }
       t.accesses = s.accesses ++ readsOf (as ++ [Config.resetVector, Config.resetVector + 1]) u ∧
       t.pc = wordOf (peekAfter (as ++ [Config.resetVector]) (Config.resetVector + 1) u)
         (peekAfter as Config.resetVector u))

/-- SLO, RLA, SRE and DCP do the RMW on memory and combine the new byte with A. Rests on R271, R272, R273, R277,
45_undocumented.md section 2. The model's own choices in it: log 20. -/
def Obligations.CombinedShiftsAndCompare : Prop :=
  ∀ (s : State) (b : Byte) (w : Word),
    (∀ f ∈ ([(0x03, .sloIzx b, .izx b), (0x07, .sloZp b, .zp b), (0x0F, .sloAbs w, .abs w), (0x13, .sloIzy b, .izy b),
      (0x17, .sloZpx b, .zpx b), (0x1B, .sloAby w, .aby w), (0x1F, .sloAbx w, .abx w)] :
      List (Byte × Instr × MemMode)),
      (encode f.2.1).head? = some f.1 ∧
      let old := oldByte f.2.2 s
      let new := old <<< 1
      exec f.2.1 s = .next { modified f.2.2 new s with
          A := s.A ||| new, P := { setNZ (s.A ||| new) s.P with c := old.getLsbD 7 } }) ∧
    (∀ f ∈ ([(0x23, .rlaIzx b, .izx b), (0x27, .rlaZp b, .zp b), (0x2F, .rlaAbs w, .abs w), (0x33, .rlaIzy b, .izy b),
      (0x37, .rlaZpx b, .zpx b), (0x3B, .rlaAby w, .aby w), (0x3F, .rlaAbx w, .abx w)] :
      List (Byte × Instr × MemMode)),
      (encode f.2.1).head? = some f.1 ∧
      let old := oldByte f.2.2 s
      let new := (old <<< 1) ||| (if s.P.c then 0x01 else 0x00)
      exec f.2.1 s = .next { modified f.2.2 new s with
          A := s.A &&& new, P := { setNZ (s.A &&& new) s.P with c := old.getLsbD 7 } }) ∧
    (∀ f ∈ ([(0x43, .sreIzx b, .izx b), (0x47, .sreZp b, .zp b), (0x4F, .sreAbs w, .abs w), (0x53, .sreIzy b, .izy b),
      (0x57, .sreZpx b, .zpx b), (0x5B, .sreAby w, .aby w), (0x5F, .sreAbx w, .abx w)] :
      List (Byte × Instr × MemMode)),
      (encode f.2.1).head? = some f.1 ∧
      let old := oldByte f.2.2 s
      let new := old >>> 1
      exec f.2.1 s = .next { modified f.2.2 new s with
          A := s.A ^^^ new, P := { setNZ (s.A ^^^ new) s.P with c := old.getLsbD 0 } }) ∧
    (∀ f ∈ ([(0xC3, .dcpIzx b, .izx b), (0xC7, .dcpZp b, .zp b), (0xCF, .dcpAbs w, .abs w), (0xD3, .dcpIzy b, .izy b),
      (0xD7, .dcpZpx b, .zpx b), (0xDB, .dcpAby w, .aby w), (0xDF, .dcpAbx w, .abx w)] :
      List (Byte × Instr × MemMode)),
      (encode f.2.1).head? = some f.1 ∧
      let old := oldByte f.2.2 s
      let new := old - 1
      exec f.2.1 s = .next { modified f.2.2 new s with
          P := { setNZ (s.A - new) s.P with c := decide (new.toNat ≤ s.A.toNat) } })

/-- RRA rotates memory right and adds it to A with the carry rotated out; ISB increments memory and subtracts it.
Rests on R274, R278, 45_undocumented.md section 2. The model's own choices in it: log 20, log 18. -/
def Obligations.CombinedRotateAddAndIncrementSubtract : Prop :=
  ∀ (s : State) (b : Byte) (w : Word),
    let add := fun m c => if s.P.d then decAdc s.A m c else addBinary s.A m c
    let sub := fun m => if s.P.d then decSbc s.A m s.P.c else addBinary s.A (~~~m) s.P.c
    (s.params.hasRor = true →
      (∀ f ∈ ([(0x63, .rraIzx b, .izx b), (0x67, .rraZp b, .zp b), (0x6F, .rraAbs w, .abs w), (0x73, .rraIzy b, .izy b),
      (0x77, .rraZpx b, .zpx b), (0x7B, .rraAby w, .aby w), (0x7F, .rraAbx w, .abx w)] :
      List (Byte × Instr × MemMode)),
      (encode f.2.1).head? = some f.1 ∧
      let old := oldByte f.2.2 s
      let new := (old >>> 1) ||| (if s.P.c then 0x80 else 0x00)
      exec f.2.1 s = .next { modified f.2.2 new s with
          A := (add new (old.getLsbD 0)).val, P := setSum (add new (old.getLsbD 0)) s.P })) ∧
    (∀ f ∈ ([(0xE3, .isbIzx b, .izx b), (0xE7, .isbZp b, .zp b), (0xEF, .isbAbs w, .abs w), (0xF3, .isbIzy b, .izy b),
      (0xF7, .isbZpx b, .zpx b), (0xFB, .isbAby w, .aby w), (0xFF, .isbAbx w, .abx w)] :
      List (Byte × Instr × MemMode)),
      (encode f.2.1).head? = some f.1 ∧
      let old := oldByte f.2.2 s
      let new := old + 1
      exec f.2.1 s = .next { modified f.2.2 new s with
          A := (sub new).val, P := setSum (sub new) s.P })

/-- LAX loads the operand byte into A and X and sets N and Z. States R276. -/
def Obligations.LaxLoadsBothRegisters : Prop :=
  ∀ (s : State) (b : Byte) (w : Word),
    (∀ f ∈ ([(0xA3, .laxIzx b, .izx b), (0xA7, .laxZp b, .zp b), (0xAF, .laxAbs w, .abs w), (0xB3, .laxIzy b, .izy b),
      (0xB7, .laxZpy b, .zpy b), (0xBF, .laxAby w, .aby w)] :
      List (Byte × Instr × MemMode)),
      (encode f.2.1).head? = some f.1 ∧
      let m := operandByte f.2.2 s
      exec f.2.1 s = .next { afterRead f.2.2 s with A := m, X := m, P := setNZ m s.P })

/-- ANC, ASR and LAS: the and, the and shifted right, the and with S. Rests on R279, R280, R299, 45_undocumented.md
sections 4 and 6. The model's own choices in it: log 20. -/
def Obligations.AncAsrLasResults : Prop :=
  ∀ (s : State) (v : Byte) (w : Word),
    (∀ f ∈ ([(0x0B, .ancImm0B v), (0x2B, .ancImm2B v)] : List (Byte × Instr)),
      encode f.2 = [f.1, v] ∧ exec f.2 s = .next { afterImmediate s with
        A := s.A &&& v, P := { setNZ (s.A &&& v) s.P with c := (s.A &&& v).getLsbD 7 } }) ∧
    (encode (.asrImm v) = [0x4B, v] ∧ exec (.asrImm v) s = .next { afterImmediate s with
      A := (s.A &&& v) >>> 1, P := { setNZ ((s.A &&& v) >>> 1) s.P with c := (s.A &&& v).getLsbD 0 } }) ∧
    (let r := operandByte (.aby w) s &&& s.S
     encode (.lasAby w) = [0xBB, lo8 w, hi8 w] ∧
     exec (.lasAby w) s = .next { afterRead (.aby w) s with A := r, X := r, S := r, P := setNZ r s.P })

/-- SBX puts (A and X) minus the immediate in X, sets N, Z and C as a comparison does and leaves V alone. States R293.
-/
def Obligations.SbxSubtractsFromTheAnd : Prop :=
  ∀ (s : State) (v : Byte),
    encode (.sbxImm v) = [0xCB, v] ∧
    exec (.sbxImm v) s = .next { afterImmediate s with
      X := (s.A &&& s.X) - v,
      P := { setNZ ((s.A &&& s.X) - v) s.P with c := decide (v.toNat ≤ (s.A &&& s.X).toNat) } }

/-- ARR on a part with ROR, in binary mode and by the source's C routine in decimal mode. States R281. -/
def Obligations.ArrInBothModes : Prop :=
  ∀ (s : State) (v : Byte), s.params.hasRor = true →
    let t := s.A &&& v
    let r := (t >>> 1) ||| (if s.P.c then 0x80 else 0x00)
    let al := t.toNat % 16
    let ah := t.toNat / 16
    let low := if 5 < al + al % 2 then r.toNat / 16 * 16 + (r.toNat + 6) % 16 else r.toNat
    let carry := decide (5 < ah + ah % 2)
    encode (.arrImm v) = [0x6B, v] ∧
    (s.P.d = false → exec (.arrImm v) s = .next { afterImmediate s with
      A := r, P := { setNZ r s.P with c := r.getLsbD 6, v := r.getLsbD 6 ^^ r.getLsbD 5 } }) ∧
    (s.P.d = true → exec (.arrImm v) s = .next { afterImmediate s with
      A := BitVec.ofNat 8 (if carry then low + 0x60 else low),
      P := { s.P with n := s.P.c, z := r == 0, v := (t ^^^ r).getLsbD 6, c := carry } })

/-- ANE and LXA give the source's formula for one of its four constants, LXA also its alternate account. Rests on
R291, R292, 45_undocumented.md section 4. The model's own choices in it: log 21, log 22, log 23. -/
def Obligations.AneAndLxaWithADrawnConstant : Prop :=
  ∀ (s : State) (v : Byte), ∃ k ∈ ([0x11, 0x10, 0x01, 0x00] : List Byte),
    let r := ((s.A &&& k &&& s.X) ||| (0xEE &&& s.X)) &&& v
    encode (.aneImm v) = [0x8B, v] ∧ encode (.lxaImm v) = [0xAB, v] ∧
    exec (.aneImm v) s = .next { afterImmediate s with A := r, P := setNZ r s.P } ∧
    (s.params.lxaVariant = .lehti →
      exec (.lxaImm v) s = .next { afterImmediate s with A := r, X := r, P := setNZ r s.P }) ∧
    (s.params.lxaVariant = .alternate → exec (.lxaImm v) s = .next { afterImmediate s with
      A := s.A &&& v, X := s.A &&& v, P := setNZ (s.A &&& v) s.P })

/-- SAX stores A & X; SHA, SHX, SHY and SHS store a register and the base's high byte plus one. Rests on R275, R295,
R296, R297, R298, 45_undocumented.md sections 3 and 5. The model's own choices in it: log 24. -/
def Obligations.UndocumentedStores : Prop :=
  ∀ (s : State) (b : Byte) (w : Word),
    (∀ f ∈ ([(0x83, .saxIzx b, .izx b), (0x87, .saxZp b, .zp b), (0x8F, .saxAbs w, .abs w), (0x97, .saxZpy b, .zpy b)] :
      List (Byte × Instr × MemMode)),
      (encode f.2.1).head? = some f.1 ∧ exec f.2.1 s = .next (stored f.2.2 (s.A &&& s.X) s)) ∧
    (∀ f ∈ ([(0x93, .shaIzy b, .izy b, s.A &&& s.X), (0x9F, .shaAby w, .aby w, s.A &&& s.X),
      (0x9E, .shxAby w, .aby w, s.X), (0x9C, .shyAbx w, .abx w, s.Y)] : List (Byte × Instr × MemMode × Byte)),
      let v := f.2.2.2 &&& ((targetOf f.2.2.1 s).baseHi + 1)
      let at' := if (targetOf f.2.2.1 s).crossed then wordOf v (lo8 (targetOf f.2.2.1 s).unfixed)
        else (targetOf f.2.2.1 s).unfixed
      (encode f.2.1).head? = some f.1 ∧
      exec f.2.1 s = .next (memWrite at' v (afterReads (modeLength f.2.2.1) (writeReads f.2.2.1 s) s))) ∧
    (let v := s.A &&& s.X &&& (hi8 w + 1)
     let low := lo8 w + s.Y
     let at' := if 255 < (lo8 w).toNat + s.Y.toNat then wordOf v low else wordOf (hi8 w) low
     encode (.shsAby w) = [0x9B, lo8 w, hi8 w] ∧
     exec (.shsAby w) s = .next
       { memWrite at' v (afterReads 3 [s.pc, s.pc + 1, s.pc + 2, wordOf (hi8 w) low] s) with S := s.A &&& s.X })

/-- The twelve JAM opcodes jam the processor; $82, $C2 and $E2 are two-byte NOPs or jam, as a draw decides. Rests on
R302, R37, R130, 45_undocumented.md section 8, R301, R300, 45_undocumented.md section 7. The model's own choices in
it: log 26, log 25. -/
def Obligations.JamsAndRareJams : Prop :=
  (∀ s : State,
    ∀ f ∈ ([(0x02, .jam02), (0x12, .jam12), (0x22, .jam22), (0x32, .jam32), (0x42, .jam42), (0x52, .jam52),
      (0x62, .jam62), (0x72, .jam72), (0x92, .jam92), (0xB2, .jamB2), (0xD2, .jamD2), (0xF2, .jamF2)] :
        List (Byte × Instr)),
      encode f.2 = [f.1] ∧
      exec f.2 s = .next { afterReads 1 [s.pc, s.pc + 1] s with
        jammed := true, tick := s.tick + 3, device := Config.jamDevice (deviceAfter [s.pc, s.pc + 1] s) (s.tick + 2),
        accesses := s.accesses ++ readsOf [s.pc, s.pc + 1] s ++ Config.jamBus (s.tick + 2) }) ∧
  (∀ (s : State) (v : Byte),
    ∀ f ∈ ([(0x82, .nopImm82 v), (0xC2, .nopImmC2 v), (0xE2, .nopImmE2 v)] : List (Byte × Instr)),
      let nop : Result := .next (afterReads 2 [s.pc, s.pc + 1] s)
      let jams : Result := .next { afterReads 1 [s.pc, s.pc + 1] s with
        jammed := true, tick := s.tick + 3, device := Config.jamDevice (deviceAfter [s.pc, s.pc + 1] s) (s.tick + 2),
        accesses := s.accesses ++ readsOf [s.pc, s.pc + 1] s ++ Config.jamBus (s.tick + 2) }
      encode f.2 = [f.1, v] ∧
      exec f.2 s = (if s.params.rareJam && Config.rareJamDraw (s.tick + 1) then jams else nop))

/-- A jammed processor changes no register, flag but V by -SO, or memory, and takes no IRQ and no NMI, until reset.
Rests on R37, R302, R336, 10_state.md section 6, 60_exceptions.md section 7. The model's own choices in it: log 26. -/
def Obligations.OnlyResetLeavesTheJam : Prop :=
  ∀ s : State, s.jammed = true →
    ((boundary s).resetLine = false → ∃ t, step s = .next t ∧ t.jammed = true ∧ t.A = s.A ∧ t.X = s.X ∧ t.Y = s.Y ∧
      t.S = s.S ∧ t.pc = s.pc ∧ t.P = (boundary s).P ∧ t.ram = s.ram ∧ t.colorRam = s.colorRam ∧ t.ddr = s.ddr ∧
      t.prLatch = s.prLatch) ∧
    ((boundary s).resetLine = true → ∃ t, step s = .next t ∧ t.jammed = false)

/-- On a part with the port, 0000 is DDR and 0001 is PR: a read gives the latch on outputs and the line on inputs.
Rests on R80, R81, R82, R375, 20_memory.md section 7. The model's own choices in it: log 30, log 29. -/
def Obligations.PortReadsAndWrites : Prop :=
  ∀ (s : State) (v : Byte) (i : Nat), s.params.hasIoPort = true → i < s.params.portLines → s.params.portLines ≤ 8 →
    (peek 0x0000 s).getLsbD i = s.ddr.getLsbD i ∧
    (peek 0x0001 s).getLsbD i = (if s.ddr.getLsbD i then s.prLatch.getLsbD i else (outsideLevels s).getLsbD i) ∧
    (memWrite 0x0000 v s).ddr.getLsbD i = v.getLsbD i ∧ (memWrite 0x0000 v s).prLatch = s.prLatch ∧
    (memWrite 0x0001 v s).prLatch.getLsbD i = v.getLsbD i ∧ (memWrite 0x0001 v s).ddr = s.ddr ∧
    (s.params.platform = .flatRam → outsideLevels s = s.portIn ∧
      (memWrite 0x0000 v s).ram.read 0 = Config.busResidue s.tick ∧
      (memWrite 0x0001 v s).ram.read 1 = Config.busResidue s.tick)

/-- The nine memory configurations of the Commodore 64, column by column, at every address. Rests on R87, R88,
90_conflicts.md C8, 20_memory.md section 8. The model's own choices in it: log 32. The entries IO/C and IO/RAM at D000
are those of R88, the second as 90_conflicts.md C8 reconstructs it. -/
def Obligations.CommodoreMemoryTable : Prop :=
  ∀ (charen x y : Bool),
    let ranges : List (Nat × Nat) := [(0xE000, 0xFFFF), (0xD000, 0xDFFF), (0xC000, 0xCFFF), (0xA000, 0xBFFF),
      (0x8000, 0x9FFF), (0x4000, 0x7FFF), (0x1000, 0x3FFF), (0x0000, 0x0FFF)]
    let column := fun (c : BankConfig) (entries : List Region) =>
      ∀ e ∈ ranges.zip entries, ∀ a : Word, e.1.1 ≤ a.toNat → a.toNat ≤ e.1.2 → regionAt c charen a.toNat = e.2
    let ioC : Region := if charen then .io else .character
    let ioRam : Region := if charen then .io else .ram
    column (bankConfig true true true true) [.kernal, ioC, .ram, .basic, .ram, .ram, .ram, .ram] ∧
    column (bankConfig true false true x) [.ram, ioC, .ram, .ram, .ram, .ram, .ram, .ram] ∧
    column (bankConfig true false false false) [.ram, ioRam, .ram, .ram, .ram, .ram, .ram, .ram] ∧
    column (bankConfig false true true x) [.kernal, ioC, .ram, .ram, .ram, .ram, .ram, .ram] ∧
    column (bankConfig false false true x) [.ram, .ram, .ram, .ram, .ram, .ram, .ram, .ram] ∧
    column (bankConfig false false false false) [.ram, .ram, .ram, .ram, .ram, .ram, .ram, .ram] ∧
    column (bankConfig true true true false) [.kernal, ioC, .ram, .basic, .romL, .ram, .ram, .ram] ∧
    column (bankConfig false true false false) [.kernal, ioC, .ram, .romH, .ram, .ram, .ram, .ram] ∧
    column (bankConfig true true false false) [.kernal, ioC, .ram, .romH, .romL, .ram, .ram, .ram] ∧
    column (bankConfig x y false true)
      [.romH, .io, .unconnected, .unconnected, .romL, .unconnected, .unconnected, .ram]

/-- A write to a ROM area of the Commodore 64 writes the RAM beneath and a read still gives the ROM; not in Ultimax.
States R89. -/
def Obligations.WritesGoThroughTheRom : Prop :=
  ∀ (s : State) (a : Word) (v : Byte), s.params.platform = .commodore64 →
    (currentBank s ≠ .cxx01 →
      (currentRegion s a = .kernal ∨ currentRegion s a = .basic ∨ currentRegion s a = .character ∨
        currentRegion s a = .romL ∨ currentRegion s a = .romH) →
      (memWrite a v s).ram.read a.toNat = v ∧ (memWrite a v s).roms = s.roms ∧
      peek a (memWrite a v s) = peek a s) ∧
    (currentBank s = .cxx01 → 0x1000 ≤ a.toNat → (memWrite a v s).ram = s.ram)

/-- On a Commodore 64 port lines P0, P1 and P2 with -GAME and -EXROM select what every address reads. Rests on R82,
R83, R84, R86, R88, 20_memory.md sections 7 and 8. The model's own choices in it: log 34. -/
def Obligations.PortLinesSelectTheMemory : Prop :=
  ∀ s : State, s.params.platform = .commodore64 →
    let line := fun i : Nat => if s.ddr.getLsbD i then s.prLatch.getLsbD i else true
    currentBank s = bankConfig (line 0) (line 1) s.game s.exrom ∧
    (∀ a : Word, currentRegion s a = regionAt (currentBank s) (line 2) a.toNat) ∧
    (∀ a : Word, ¬(s.params.hasIoPort = true ∧ (a = 0x0000 ∨ a = 0x0001)) →
      peek a s = match currentRegion s a with
        | .ram => s.ram.read a.toNat
        | .kernal => s.roms.kernal.read a.toNat
        | .basic => s.roms.basic.read a.toNat
        | .character => s.roms.character.read a.toNat
        | .romL => s.roms.romL.read a.toNat
        | .romH => s.roms.romH.read a.toNat
        | .io => ioRead s a.toNat
        | .unconnected => Config.openBus s.tick) ∧
    (∀ v : Byte, s.params.hasIoPort = true → 3 ≤ s.params.portLines →
      s.ddr.getLsbD 0 = true → s.ddr.getLsbD 1 = true → s.ddr.getLsbD 2 = true →
      let t := memWrite 0x0001 v s
      currentBank t = bankConfig (v.getLsbD 0) (v.getLsbD 1) s.game s.exrom ∧
      ∀ a : Word, currentRegion t a = regionAt (currentBank t) (v.getLsbD 2) a.toNat)

/-- In the I/O area the colour RAM keeps a nybble, and the chips' mirrored registers get every access of their ranges.
Rests on R75, R90, 20_memory.md section 8. The model's own choices in it: log 33, log 34. -/
def Obligations.ColourRamAndIoArea : Prop :=
  ∀ (s : State) (a : Word) (v : Byte), s.params.platform = .commodore64 → currentRegion s a = .io →
    (0xD800 ≤ a.toNat → a.toNat ≤ 0xDBFF →
      (memWrite a v s).colorRam.read a.toNat = v &&& 0x0F ∧ peek a (memWrite a v s) &&& 0x0F = v &&& 0x0F ∧
      (∀ x : Word, x ≠ a → (memWrite a v s).colorRam.read x.toNat = s.colorRam.read x.toNat) ∧
      (memWrite a v s).ram = s.ram ∧ (memWrite a v s).device = s.device) ∧
    (∀ r ∈ ([(0xD000, 0xD3FF, .vic, 0x40), (0xD400, 0xD7FF, .sid, 0x20), (0xDC00, 0xDCFF, .cia1, 0x10),
        (0xDD00, 0xDDFF, .cia2, 0x10)] : List (Nat × Nat × IoChip × Nat)),
      r.1 ≤ a.toNat → a.toNat ≤ r.2.1 →
      let place := DevicePlace.chip r.2.2.1 (a.toNat % r.2.2.2)
      peek a s = Config.deviceAnswer place s.device s.tick ∧
      (memRead a s).2.device = Config.deviceAfterRead place s.device s.tick ∧
      memWrite a v s = logBus (.write a v) { s with device := Config.deviceAfterWrite place v s.device s.tick }) ∧
    (0xDE00 ≤ a.toNat → peek a s = Config.openBus s.tick ∧ memWrite a v s = logBus (.write a v) s)

/-- On a bus that is not memory every access a step lists acts on it once, in order, and each read obtains its answer.
Rests on R8, R13, R60, R66, 20_memory.md sections 1 and 4. The model's own choices in it: log 41, log 43, log 42, log
30. -/
def Obligations.EveryListedAccessReachesTheBus : Prop :=
  ∀ s t : State, s.params.platform = .external → step s = .next t → t.jammed = false →
    let first := if (boundary s).resetLine then Config.deviceAfterReset s.device s.tick else s.device
    busSession s.params t.accesses first s.tick t.device ∧ t.tick = s.tick + t.accesses.length
end

