-- ==== Sys2Proof/Laws/Memory.lean ====
section
/-! SUPPORT. The laws of the sparse memory: a read after a write, and that every operation keeps the canonical form. -/

namespace Sys2Proof.Machine

@[simp] theorem Memory.read_nil (a : Nat) : Memory.read [] a = unlistedByte := rfl

theorem Memory.read_erase_self (m : Memory) (a : Nat) : (m.erase a).read a = unlistedByte := by
  induction m with
  | nil => rfl
  | cons c m ih =>
    simp only [Memory.erase, List.filter_cons] at *
    split
    · rename_i h
      simp only [bne_iff_ne, ne_eq] at h
      simpa [Memory.read, h] using ih
    · exact ih

theorem Memory.read_erase_of_ne (m : Memory) {a b : Nat} (h : b ≠ a) : (m.erase a).read b = m.read b := by
  induction m with
  | nil => rfl
  | cons c m ih =>
    simp only [Memory.erase, List.filter_cons] at *
    split
    · simp only [Memory.read, ih]
    · rename_i hc
      simp only [bne_iff_ne, ne_eq, not_not] at hc
      simp [Memory.read, hc, h.symm, ih]

/-- Placing an entry for an address that has none makes it the byte read there. -/
theorem Memory.read_place_self (m : Memory) (a : Nat) (v : Byte) (h : ∀ c ∈ m, c.1 ≠ a) : (m.place a v).read a = v := by
  induction m with
  | nil => simp [Memory.place, Memory.read]
  | cons c m ih =>
    have hc : c.1 ≠ a := h c (by simp)
    simp only [Memory.place]
    split
    · simp [Memory.read]
    · simp [Memory.read, hc, ih fun d hd => h d (by simp [hd])]

theorem Memory.read_place_of_ne (m : Memory) {a b : Nat} (v : Byte) (h : b ≠ a) : (m.place a v).read b = m.read b := by
  induction m with
  | nil => simp [Memory.place, Memory.read, h.symm]
  | cons c m ih =>
    simp only [Memory.place]
    split
    · simp [Memory.read, h.symm]
    · simp [Memory.read, ih]

theorem Memory.ne_of_mem_erase {m : Memory} {a : Nat} {c : Host.Cell} (h : c ∈ m.erase a) : c.1 ≠ a := by
  simpa using (List.mem_filter.mp h).2

/-- A read after a write to the same place gives the byte written. -/
@[simp] theorem Memory.read_write_self (m : Memory) (a : Nat) (v : Byte) : (m.write a v).read a = v := by
  unfold Memory.write
  split
  · rename_i h; rw [h, Memory.read_erase_self]
  · exact Memory.read_place_self _ a v fun _ => Memory.ne_of_mem_erase

/-- A write leaves every other place alone. -/
theorem Memory.read_write_of_ne (m : Memory) {a b : Nat} (v : Byte) (h : b ≠ a) : (m.write a v).read b = m.read b := by
  unfold Memory.write
  split
  · exact Memory.read_erase_of_ne m h
  · rw [Memory.read_place_of_ne _ v h, Memory.read_erase_of_ne m h]

theorem Memory.risingFrom_mono {lo lo' : Nat} {m : Memory} (hl : lo' ≤ lo) (h : Memory.risingFrom lo m = true) :
    Memory.risingFrom lo' m = true := by
  cases m with
  | nil => rfl
  | cons c m =>
    simp only [Memory.risingFrom, Bool.and_eq_true, decide_eq_true_eq] at *
    exact ⟨Nat.le_trans hl h.1, h.2⟩

theorem Memory.risingFrom_erase {lo : Nat} {m : Memory} (a : Nat) (h : Memory.risingFrom lo m = true) :
    Memory.risingFrom lo (m.erase a) = true := by
  induction m generalizing lo with
  | nil => rfl
  | cons c m ih =>
    simp only [Memory.risingFrom, Bool.and_eq_true, decide_eq_true_eq] at h
    simp only [Memory.erase, List.filter_cons] at *
    split
    · simp only [Memory.risingFrom, Bool.and_eq_true, decide_eq_true_eq]
      exact ⟨h.1, ih h.2⟩
    · exact Memory.risingFrom_mono (Nat.le_succ_of_le h.1) (ih h.2)

theorem Memory.risingFrom_place {lo a : Nat} {m : Memory} (v : Byte) (hlo : lo ≤ a) (hne : ∀ c ∈ m, c.1 ≠ a)
    (h : Memory.risingFrom lo m = true) : Memory.risingFrom lo (m.place a v) = true := by
  induction m generalizing lo with
  | nil => simp [Memory.place, Memory.risingFrom, hlo]
  | cons c m ih =>
    have hc : c.1 ≠ a := hne c (by simp)
    simp only [Memory.risingFrom, Bool.and_eq_true, decide_eq_true_eq] at h
    simp only [Memory.place]
    split
    · rename_i hlt
      simp only [Memory.risingFrom, Bool.and_eq_true, decide_eq_true_eq]
      exact ⟨hlo, hlt, h.2⟩
    · simp only [Memory.risingFrom, Bool.and_eq_true, decide_eq_true_eq]
      exact ⟨h.1, ih (by omega) (fun d hd => hne d (by simp [hd])) h.2⟩

theorem Memory.mem_place {m : Memory} {a : Nat} {v : Byte} {c : Host.Cell} (h : c ∈ m.place a v) : c = (a, v) ∨ c ∈ m := by
  induction m with
  | nil => simpa [Memory.place] using h
  | cons d m ih =>
    simp only [Memory.place] at h
    split at h
    · simpa using h
    · rcases List.mem_cons.mp h with h | h
      · exact .inr (by simp [h])
      · rcases ih h with h | h
        · exact .inl h
        · exact .inr (by simp [h])

/-- Erasing keeps the canonical form. -/
theorem Memory.wf_erase {m : Memory} (a : Nat) (h : m.wf = true) : (m.erase a).wf = true := by
  simp only [Memory.wf, Bool.and_eq_true, List.all_eq_true] at *
  exact ⟨Memory.risingFrom_erase a h.1, fun c hc => h.2 c (List.mem_filter.mp hc).1⟩

/-- A write to an address of the 64 KB space keeps the canonical form. -/
theorem Memory.wf_write {m : Memory} {a : Nat} (v : Byte) (ha : a < 65536) (h : m.wf = true) : (m.write a v).wf = true := by
  unfold Memory.write
  split
  · exact Memory.wf_erase a h
  · rename_i hv
    have he := Memory.wf_erase a h
    simp only [Memory.wf, Bool.and_eq_true, List.all_eq_true] at *
    refine ⟨Memory.risingFrom_place v (Nat.zero_le a) (fun _ => Memory.ne_of_mem_erase) he.1, fun c hc => ?_⟩
    rcases Memory.mem_place hc with rfl | hc
    · simp [ha, hv]
    · exact he.2 c hc

/-- The memory that lists nothing has the canonical form. -/
theorem Memory.wf_nil : Memory.wf [] = true := rfl

end Sys2Proof.Machine
end

