-- ==== Sys2Proof/Laws/State.lean ====
section
/-! SUPPORT. One lemma per field per named update of the state. -/

namespace Sys2Proof.Machine

@[simp] theorem logBus_A (e : BusAccess) (s : State) : (logBus e s).A = s.A := rfl
@[simp] theorem logBus_X (e : BusAccess) (s : State) : (logBus e s).X = s.X := rfl
@[simp] theorem logBus_Y (e : BusAccess) (s : State) : (logBus e s).Y = s.Y := rfl
@[simp] theorem logBus_S (e : BusAccess) (s : State) : (logBus e s).S = s.S := rfl
@[simp] theorem logBus_P (e : BusAccess) (s : State) : (logBus e s).P = s.P := rfl
@[simp] theorem logBus_pc (e : BusAccess) (s : State) : (logBus e s).pc = s.pc := rfl
@[simp] theorem logBus_ddr (e : BusAccess) (s : State) : (logBus e s).ddr = s.ddr := rfl
@[simp] theorem logBus_prLatch (e : BusAccess) (s : State) : (logBus e s).prLatch = s.prLatch := rfl
@[simp] theorem logBus_jammed (e : BusAccess) (s : State) : (logBus e s).jammed = s.jammed := rfl
@[simp] theorem logBus_nmiPending (e : BusAccess) (s : State) : (logBus e s).nmiPending = s.nmiPending := rfl
@[simp] theorem logBus_irqLine (e : BusAccess) (s : State) : (logBus e s).irqLine = s.irqLine := rfl
@[simp] theorem logBus_resetLine (e : BusAccess) (s : State) : (logBus e s).resetLine = s.resetLine := rfl
@[simp] theorem logBus_portIn (e : BusAccess) (s : State) : (logBus e s).portIn = s.portIn := rfl
@[simp] theorem logBus_exrom (e : BusAccess) (s : State) : (logBus e s).exrom = s.exrom := rfl
@[simp] theorem logBus_game (e : BusAccess) (s : State) : (logBus e s).game = s.game := rfl
@[simp] theorem logBus_ram (e : BusAccess) (s : State) : (logBus e s).ram = s.ram := rfl
@[simp] theorem logBus_colorRam (e : BusAccess) (s : State) : (logBus e s).colorRam = s.colorRam := rfl
@[simp] theorem logBus_roms (e : BusAccess) (s : State) : (logBus e s).roms = s.roms := rfl
@[simp] theorem logBus_device (e : BusAccess) (s : State) : (logBus e s).device = s.device := rfl
@[simp] theorem logBus_params (e : BusAccess) (s : State) : (logBus e s).params = s.params := rfl
@[simp] theorem logBus_inputs (e : BusAccess) (s : State) : (logBus e s).inputs = s.inputs := rfl
@[simp] theorem logBus_defer (e : BusAccess) (s : State) : (logBus e s).defer = s.defer := rfl
@[simp] theorem logBus_hijack (e : BusAccess) (s : State) : (logBus e s).hijack = s.hijack := rfl
@[simp] theorem logBus_vectored (e : BusAccess) (s : State) : (logBus e s).vectored = s.vectored := rfl
@[simp] theorem logBus_accesses (e : BusAccess) (s : State) : (logBus e s).accesses = s.accesses ++ [e] := rfl
@[simp] theorem logBus_tick (e : BusAccess) (s : State) : (logBus e s).tick = s.tick + 1 := rfl

@[simp] theorem dummyRead_A (a : Word) (s : State) : (dummyRead a s).A = s.A := rfl
@[simp] theorem dummyRead_X (a : Word) (s : State) : (dummyRead a s).X = s.X := rfl
@[simp] theorem dummyRead_Y (a : Word) (s : State) : (dummyRead a s).Y = s.Y := rfl
@[simp] theorem dummyRead_S (a : Word) (s : State) : (dummyRead a s).S = s.S := rfl
@[simp] theorem dummyRead_P (a : Word) (s : State) : (dummyRead a s).P = s.P := rfl
@[simp] theorem dummyRead_pc (a : Word) (s : State) : (dummyRead a s).pc = s.pc := rfl
@[simp] theorem dummyRead_ddr (a : Word) (s : State) : (dummyRead a s).ddr = s.ddr := rfl
@[simp] theorem dummyRead_prLatch (a : Word) (s : State) : (dummyRead a s).prLatch = s.prLatch := rfl
@[simp] theorem dummyRead_jammed (a : Word) (s : State) : (dummyRead a s).jammed = s.jammed := rfl
@[simp] theorem dummyRead_nmiPending (a : Word) (s : State) : (dummyRead a s).nmiPending = s.nmiPending := rfl
@[simp] theorem dummyRead_irqLine (a : Word) (s : State) : (dummyRead a s).irqLine = s.irqLine := rfl
@[simp] theorem dummyRead_resetLine (a : Word) (s : State) : (dummyRead a s).resetLine = s.resetLine := rfl
@[simp] theorem dummyRead_portIn (a : Word) (s : State) : (dummyRead a s).portIn = s.portIn := rfl
@[simp] theorem dummyRead_exrom (a : Word) (s : State) : (dummyRead a s).exrom = s.exrom := rfl
@[simp] theorem dummyRead_game (a : Word) (s : State) : (dummyRead a s).game = s.game := rfl
@[simp] theorem dummyRead_ram (a : Word) (s : State) : (dummyRead a s).ram = s.ram := rfl
@[simp] theorem dummyRead_colorRam (a : Word) (s : State) : (dummyRead a s).colorRam = s.colorRam := rfl
@[simp] theorem dummyRead_roms (a : Word) (s : State) : (dummyRead a s).roms = s.roms := rfl
@[simp] theorem dummyRead_device (a : Word) (s : State) : (dummyRead a s).device = readEffect a s := rfl
@[simp] theorem dummyRead_params (a : Word) (s : State) : (dummyRead a s).params = s.params := rfl
@[simp] theorem dummyRead_inputs (a : Word) (s : State) : (dummyRead a s).inputs = s.inputs := rfl
@[simp] theorem dummyRead_defer (a : Word) (s : State) : (dummyRead a s).defer = s.defer := rfl
@[simp] theorem dummyRead_hijack (a : Word) (s : State) : (dummyRead a s).hijack = s.hijack := rfl
@[simp] theorem dummyRead_vectored (a : Word) (s : State) : (dummyRead a s).vectored = s.vectored := rfl
@[simp] theorem dummyRead_accesses (a : Word) (s : State) :
    (dummyRead a s).accesses = s.accesses ++ [.read a (peek a s)] := rfl
@[simp] theorem dummyRead_tick (a : Word) (s : State) : (dummyRead a s).tick = s.tick + 1 := rfl

@[simp] theorem memRead_A (a : Word) (s : State) : (memRead a s).2.A = s.A := rfl
@[simp] theorem memRead_X (a : Word) (s : State) : (memRead a s).2.X = s.X := rfl
@[simp] theorem memRead_Y (a : Word) (s : State) : (memRead a s).2.Y = s.Y := rfl
@[simp] theorem memRead_S (a : Word) (s : State) : (memRead a s).2.S = s.S := rfl
@[simp] theorem memRead_P (a : Word) (s : State) : (memRead a s).2.P = s.P := rfl
@[simp] theorem memRead_pc (a : Word) (s : State) : (memRead a s).2.pc = s.pc := rfl
@[simp] theorem memRead_ddr (a : Word) (s : State) : (memRead a s).2.ddr = s.ddr := rfl
@[simp] theorem memRead_prLatch (a : Word) (s : State) : (memRead a s).2.prLatch = s.prLatch := rfl
@[simp] theorem memRead_jammed (a : Word) (s : State) : (memRead a s).2.jammed = s.jammed := rfl
@[simp] theorem memRead_nmiPending (a : Word) (s : State) : (memRead a s).2.nmiPending = s.nmiPending := rfl
@[simp] theorem memRead_irqLine (a : Word) (s : State) : (memRead a s).2.irqLine = s.irqLine := rfl
@[simp] theorem memRead_resetLine (a : Word) (s : State) : (memRead a s).2.resetLine = s.resetLine := rfl
@[simp] theorem memRead_portIn (a : Word) (s : State) : (memRead a s).2.portIn = s.portIn := rfl
@[simp] theorem memRead_exrom (a : Word) (s : State) : (memRead a s).2.exrom = s.exrom := rfl
@[simp] theorem memRead_game (a : Word) (s : State) : (memRead a s).2.game = s.game := rfl
@[simp] theorem memRead_ram (a : Word) (s : State) : (memRead a s).2.ram = s.ram := rfl
@[simp] theorem memRead_colorRam (a : Word) (s : State) : (memRead a s).2.colorRam = s.colorRam := rfl
@[simp] theorem memRead_roms (a : Word) (s : State) : (memRead a s).2.roms = s.roms := rfl
@[simp] theorem memRead_device (a : Word) (s : State) : (memRead a s).2.device = readEffect a s := rfl
@[simp] theorem memRead_params (a : Word) (s : State) : (memRead a s).2.params = s.params := rfl
@[simp] theorem memRead_inputs (a : Word) (s : State) : (memRead a s).2.inputs = s.inputs := rfl
@[simp] theorem memRead_defer (a : Word) (s : State) : (memRead a s).2.defer = s.defer := rfl
@[simp] theorem memRead_hijack (a : Word) (s : State) : (memRead a s).2.hijack = s.hijack := rfl
@[simp] theorem memRead_vectored (a : Word) (s : State) : (memRead a s).2.vectored = s.vectored := rfl
@[simp] theorem memRead_accesses (a : Word) (s : State) :
    (memRead a s).2.accesses = s.accesses ++ [.read a (peek a s)] := rfl
@[simp] theorem memRead_tick (a : Word) (s : State) : (memRead a s).2.tick = s.tick + 1 := rfl

@[simp] theorem skip_A (s : State) : (skip s).A = s.A := rfl
@[simp] theorem skip_X (s : State) : (skip s).X = s.X := rfl
@[simp] theorem skip_Y (s : State) : (skip s).Y = s.Y := rfl
@[simp] theorem skip_S (s : State) : (skip s).S = s.S := rfl
@[simp] theorem skip_P (s : State) : (skip s).P = s.P := rfl
@[simp] theorem skip_pc (s : State) : (skip s).pc = s.pc + 1 := rfl
@[simp] theorem skip_ddr (s : State) : (skip s).ddr = s.ddr := rfl
@[simp] theorem skip_prLatch (s : State) : (skip s).prLatch = s.prLatch := rfl
@[simp] theorem skip_jammed (s : State) : (skip s).jammed = s.jammed := rfl
@[simp] theorem skip_nmiPending (s : State) : (skip s).nmiPending = s.nmiPending := rfl
@[simp] theorem skip_irqLine (s : State) : (skip s).irqLine = s.irqLine := rfl
@[simp] theorem skip_resetLine (s : State) : (skip s).resetLine = s.resetLine := rfl
@[simp] theorem skip_portIn (s : State) : (skip s).portIn = s.portIn := rfl
@[simp] theorem skip_exrom (s : State) : (skip s).exrom = s.exrom := rfl
@[simp] theorem skip_game (s : State) : (skip s).game = s.game := rfl
@[simp] theorem skip_ram (s : State) : (skip s).ram = s.ram := rfl
@[simp] theorem skip_colorRam (s : State) : (skip s).colorRam = s.colorRam := rfl
@[simp] theorem skip_roms (s : State) : (skip s).roms = s.roms := rfl
@[simp] theorem skip_device (s : State) : (skip s).device = readEffect s.pc s := rfl
@[simp] theorem skip_params (s : State) : (skip s).params = s.params := rfl
@[simp] theorem skip_inputs (s : State) : (skip s).inputs = s.inputs := rfl
@[simp] theorem skip_defer (s : State) : (skip s).defer = s.defer := rfl
@[simp] theorem skip_hijack (s : State) : (skip s).hijack = s.hijack := rfl
@[simp] theorem skip_vectored (s : State) : (skip s).vectored = s.vectored := rfl
@[simp] theorem skip_accesses (s : State) : (skip s).accesses = s.accesses ++ [.read s.pc (peek s.pc s)] := rfl
@[simp] theorem skip_tick (s : State) : (skip s).tick = s.tick + 1 := rfl

@[simp] theorem writeRam_A (s : State) (a : Word) (v : Byte) : (writeRam s a v).A = s.A := rfl
@[simp] theorem writeRam_X (s : State) (a : Word) (v : Byte) : (writeRam s a v).X = s.X := rfl
@[simp] theorem writeRam_Y (s : State) (a : Word) (v : Byte) : (writeRam s a v).Y = s.Y := rfl
@[simp] theorem writeRam_S (s : State) (a : Word) (v : Byte) : (writeRam s a v).S = s.S := rfl
@[simp] theorem writeRam_P (s : State) (a : Word) (v : Byte) : (writeRam s a v).P = s.P := rfl
@[simp] theorem writeRam_pc (s : State) (a : Word) (v : Byte) : (writeRam s a v).pc = s.pc := rfl
@[simp] theorem writeRam_ddr (s : State) (a : Word) (v : Byte) : (writeRam s a v).ddr = s.ddr := rfl
@[simp] theorem writeRam_prLatch (s : State) (a : Word) (v : Byte) : (writeRam s a v).prLatch = s.prLatch := rfl
@[simp] theorem writeRam_jammed (s : State) (a : Word) (v : Byte) : (writeRam s a v).jammed = s.jammed := rfl
@[simp] theorem writeRam_nmiPending (s : State) (a : Word) (v : Byte) :
    (writeRam s a v).nmiPending = s.nmiPending := rfl
@[simp] theorem writeRam_irqLine (s : State) (a : Word) (v : Byte) : (writeRam s a v).irqLine = s.irqLine := rfl
@[simp] theorem writeRam_resetLine (s : State) (a : Word) (v : Byte) : (writeRam s a v).resetLine = s.resetLine := rfl
@[simp] theorem writeRam_portIn (s : State) (a : Word) (v : Byte) : (writeRam s a v).portIn = s.portIn := rfl
@[simp] theorem writeRam_exrom (s : State) (a : Word) (v : Byte) : (writeRam s a v).exrom = s.exrom := rfl
@[simp] theorem writeRam_game (s : State) (a : Word) (v : Byte) : (writeRam s a v).game = s.game := rfl
@[simp] theorem writeRam_ram (s : State) (a : Word) (v : Byte) : (writeRam s a v).ram = s.ram.write a.toNat v := rfl
@[simp] theorem writeRam_colorRam (s : State) (a : Word) (v : Byte) : (writeRam s a v).colorRam = s.colorRam := rfl
@[simp] theorem writeRam_roms (s : State) (a : Word) (v : Byte) : (writeRam s a v).roms = s.roms := rfl
@[simp] theorem writeRam_device (s : State) (a : Word) (v : Byte) : (writeRam s a v).device = s.device := rfl
@[simp] theorem writeRam_params (s : State) (a : Word) (v : Byte) : (writeRam s a v).params = s.params := rfl
@[simp] theorem writeRam_inputs (s : State) (a : Word) (v : Byte) : (writeRam s a v).inputs = s.inputs := rfl
@[simp] theorem writeRam_defer (s : State) (a : Word) (v : Byte) : (writeRam s a v).defer = s.defer := rfl
@[simp] theorem writeRam_hijack (s : State) (a : Word) (v : Byte) : (writeRam s a v).hijack = s.hijack := rfl
@[simp] theorem writeRam_vectored (s : State) (a : Word) (v : Byte) : (writeRam s a v).vectored = s.vectored := rfl
@[simp] theorem writeRam_accesses (s : State) (a : Word) (v : Byte) : (writeRam s a v).accesses = s.accesses := rfl
@[simp] theorem writeRam_tick (s : State) (a : Word) (v : Byte) : (writeRam s a v).tick = s.tick := rfl

@[simp] theorem afterReads_A (up : Word) (as : List Word) (s : State) : (afterReads up as s).A = s.A := rfl
@[simp] theorem afterReads_X (up : Word) (as : List Word) (s : State) : (afterReads up as s).X = s.X := rfl
@[simp] theorem afterReads_Y (up : Word) (as : List Word) (s : State) : (afterReads up as s).Y = s.Y := rfl
@[simp] theorem afterReads_S (up : Word) (as : List Word) (s : State) : (afterReads up as s).S = s.S := rfl
@[simp] theorem afterReads_P (up : Word) (as : List Word) (s : State) : (afterReads up as s).P = s.P := rfl
@[simp] theorem afterReads_pc (up : Word) (as : List Word) (s : State) : (afterReads up as s).pc = s.pc + up := rfl
@[simp] theorem afterReads_ddr (up : Word) (as : List Word) (s : State) : (afterReads up as s).ddr = s.ddr := rfl
@[simp] theorem afterReads_prLatch (up : Word) (as : List Word) (s : State) :
    (afterReads up as s).prLatch = s.prLatch := rfl
@[simp] theorem afterReads_jammed (up : Word) (as : List Word) (s : State) :
    (afterReads up as s).jammed = s.jammed := rfl
@[simp] theorem afterReads_nmiPending (up : Word) (as : List Word) (s : State) :
    (afterReads up as s).nmiPending = s.nmiPending := rfl
@[simp] theorem afterReads_irqLine (up : Word) (as : List Word) (s : State) :
    (afterReads up as s).irqLine = s.irqLine := rfl
@[simp] theorem afterReads_resetLine (up : Word) (as : List Word) (s : State) :
    (afterReads up as s).resetLine = s.resetLine := rfl
@[simp] theorem afterReads_portIn (up : Word) (as : List Word) (s : State) :
    (afterReads up as s).portIn = s.portIn := rfl
@[simp] theorem afterReads_exrom (up : Word) (as : List Word) (s : State) :
    (afterReads up as s).exrom = s.exrom := rfl
@[simp] theorem afterReads_game (up : Word) (as : List Word) (s : State) : (afterReads up as s).game = s.game := rfl
@[simp] theorem afterReads_ram (up : Word) (as : List Word) (s : State) : (afterReads up as s).ram = s.ram := rfl
@[simp] theorem afterReads_colorRam (up : Word) (as : List Word) (s : State) :
    (afterReads up as s).colorRam = s.colorRam := rfl
@[simp] theorem afterReads_roms (up : Word) (as : List Word) (s : State) : (afterReads up as s).roms = s.roms := rfl
@[simp] theorem afterReads_device (up : Word) (as : List Word) (s : State) :
    (afterReads up as s).device = deviceAfter as s := rfl
@[simp] theorem afterReads_params (up : Word) (as : List Word) (s : State) :
    (afterReads up as s).params = s.params := rfl
@[simp] theorem afterReads_inputs (up : Word) (as : List Word) (s : State) :
    (afterReads up as s).inputs = s.inputs := rfl
@[simp] theorem afterReads_defer (up : Word) (as : List Word) (s : State) :
    (afterReads up as s).defer = s.defer := rfl
@[simp] theorem afterReads_hijack (up : Word) (as : List Word) (s : State) :
    (afterReads up as s).hijack = s.hijack := rfl
@[simp] theorem afterReads_vectored (up : Word) (as : List Word) (s : State) :
    (afterReads up as s).vectored = s.vectored := rfl
@[simp] theorem afterReads_accesses (up : Word) (as : List Word) (s : State) :
    (afterReads up as s).accesses = s.accesses ++ readsOf as s := rfl
@[simp] theorem afterReads_tick (up : Word) (as : List Word) (s : State) :
    (afterReads up as s).tick = s.tick + as.length := rfl

@[simp] theorem startInstr_A (s : State) : (startInstr s).A = s.A := rfl
@[simp] theorem startInstr_X (s : State) : (startInstr s).X = s.X := rfl
@[simp] theorem startInstr_Y (s : State) : (startInstr s).Y = s.Y := rfl
@[simp] theorem startInstr_S (s : State) : (startInstr s).S = s.S := rfl
@[simp] theorem startInstr_P (s : State) : (startInstr s).P = s.P := rfl
@[simp] theorem startInstr_pc (s : State) : (startInstr s).pc = s.pc := rfl
@[simp] theorem startInstr_ddr (s : State) : (startInstr s).ddr = s.ddr := rfl
@[simp] theorem startInstr_prLatch (s : State) : (startInstr s).prLatch = s.prLatch := rfl
@[simp] theorem startInstr_jammed (s : State) : (startInstr s).jammed = s.jammed := rfl
@[simp] theorem startInstr_nmiPending (s : State) : (startInstr s).nmiPending = s.nmiPending := rfl
@[simp] theorem startInstr_irqLine (s : State) : (startInstr s).irqLine = s.irqLine := rfl
@[simp] theorem startInstr_resetLine (s : State) : (startInstr s).resetLine = s.resetLine := rfl
@[simp] theorem startInstr_portIn (s : State) : (startInstr s).portIn = s.portIn := rfl
@[simp] theorem startInstr_exrom (s : State) : (startInstr s).exrom = s.exrom := rfl
@[simp] theorem startInstr_game (s : State) : (startInstr s).game = s.game := rfl
@[simp] theorem startInstr_ram (s : State) : (startInstr s).ram = s.ram := rfl
@[simp] theorem startInstr_colorRam (s : State) : (startInstr s).colorRam = s.colorRam := rfl
@[simp] theorem startInstr_roms (s : State) : (startInstr s).roms = s.roms := rfl
@[simp] theorem startInstr_device (s : State) : (startInstr s).device = s.device := rfl
@[simp] theorem startInstr_params (s : State) : (startInstr s).params = s.params := rfl
@[simp] theorem startInstr_inputs (s : State) : (startInstr s).inputs = s.inputs := rfl
@[simp] theorem startInstr_defer (s : State) : (startInstr s).defer = s.defer := rfl
@[simp] theorem startInstr_hijack (s : State) : (startInstr s).hijack = s.hijack := rfl
@[simp] theorem startInstr_vectored (s : State) : (startInstr s).vectored = false := rfl
@[simp] theorem startInstr_accesses (s : State) : (startInstr s).accesses = s.accesses := rfl
@[simp] theorem startInstr_tick (s : State) : (startInstr s).tick = s.tick := rfl

@[simp] theorem applyInput_A (e : Input) (s : State) : (applyInput e s).A = s.A := rfl
@[simp] theorem applyInput_X (e : Input) (s : State) : (applyInput e s).X = s.X := rfl
@[simp] theorem applyInput_Y (e : Input) (s : State) : (applyInput e s).Y = s.Y := rfl
@[simp] theorem applyInput_S (e : Input) (s : State) : (applyInput e s).S = s.S := rfl
@[simp] theorem applyInput_P (e : Input) (s : State) :
    (applyInput e s).P = { s.P with v := s.P.v || (e.so && s.params.hasSo) } := rfl
@[simp] theorem applyInput_pc (e : Input) (s : State) : (applyInput e s).pc = s.pc := rfl
@[simp] theorem applyInput_ddr (e : Input) (s : State) : (applyInput e s).ddr = s.ddr := rfl
@[simp] theorem applyInput_prLatch (e : Input) (s : State) : (applyInput e s).prLatch = s.prLatch := rfl
@[simp] theorem applyInput_jammed (e : Input) (s : State) : (applyInput e s).jammed = s.jammed := rfl
@[simp] theorem applyInput_nmiPending (e : Input) (s : State) :
    (applyInput e s).nmiPending = (s.nmiPending || e.nmi) := rfl
@[simp] theorem applyInput_irqLine (e : Input) (s : State) : (applyInput e s).irqLine = e.irq := rfl
@[simp] theorem applyInput_resetLine (e : Input) (s : State) :
    (applyInput e s).resetLine = (s.resetLine || e.reset) := rfl
@[simp] theorem applyInput_portIn (e : Input) (s : State) : (applyInput e s).portIn = e.portIn := rfl
@[simp] theorem applyInput_exrom (e : Input) (s : State) : (applyInput e s).exrom = e.exrom := rfl
@[simp] theorem applyInput_game (e : Input) (s : State) : (applyInput e s).game = e.game := rfl
@[simp] theorem applyInput_ram (e : Input) (s : State) : (applyInput e s).ram = s.ram := rfl
@[simp] theorem applyInput_colorRam (e : Input) (s : State) : (applyInput e s).colorRam = s.colorRam := rfl
@[simp] theorem applyInput_roms (e : Input) (s : State) : (applyInput e s).roms = s.roms := rfl
@[simp] theorem applyInput_device (e : Input) (s : State) : (applyInput e s).device = s.device := rfl
@[simp] theorem applyInput_params (e : Input) (s : State) : (applyInput e s).params = s.params := rfl
@[simp] theorem applyInput_inputs (e : Input) (s : State) : (applyInput e s).inputs = s.inputs := rfl
@[simp] theorem applyInput_defer (e : Input) (s : State) : (applyInput e s).defer = e.defer := rfl
@[simp] theorem applyInput_hijack (e : Input) (s : State) : (applyInput e s).hijack = e.hijack := rfl
@[simp] theorem applyInput_vectored (e : Input) (s : State) : (applyInput e s).vectored = s.vectored := rfl
@[simp] theorem applyInput_accesses (e : Input) (s : State) : (applyInput e s).accesses = s.accesses := rfl
@[simp] theorem applyInput_tick (e : Input) (s : State) : (applyInput e s).tick = s.tick := rfl

end Sys2Proof.Machine
end

