-- ==== Sys2Proof/Laws/Ops.lean ====
section
/-! SUPPORT. One lemma per named operation of Ops.lean: everything it can do. -/

namespace Sys2Proof.Machine

/-! Reads. -/

/-- What a read obtains depends on the platform, its devices, the port and the count of cycles alone. -/
theorem peek_congr {s t : State} (a : Word) (hp : t.params = s.params) (hd : t.ddr = s.ddr) (hl : t.prLatch = s.prLatch)
    (hi : t.portIn = s.portIn) (he : t.exrom = s.exrom) (hg : t.game = s.game) (hr : t.ram = s.ram)
    (hc : t.colorRam = s.colorRam) (ho : t.roms = s.roms) (hv : t.device = s.device) (ht : t.tick = s.tick) :
    peek a t = peek a s := by
  simp only [peek, readDdr, readPr, withOpenBits, lineLevels, outsideLevels, busRead, c64Read, currentRegion, currentBank,
    ioRead, hp, hd, hl, hi, he, hg, hr, hc, ho, hv, ht]

/-- So does what a read does to the devices. -/
theorem readEffect_congr {s t : State} (a : Word) (hp : t.params = s.params) (hd : t.ddr = s.ddr)
    (hl : t.prLatch = s.prLatch) (hi : t.portIn = s.portIn) (he : t.exrom = s.exrom) (hg : t.game = s.game)
    (hv : t.device = s.device) (ht : t.tick = s.tick) : readEffect a t = readEffect a s := by
  simp only [readEffect, busReadEffect, readsDevice, c64ReadsDevice, lineLevels, outsideLevels, currentRegion, currentBank,
    hp, hd, hl, hi, he, hg, hv, ht]

@[simp] theorem peekAfter_nil (a : Word) (s : State) : peekAfter [] a s = peek a s := rfl

theorem peekAfter_cons (b : Word) (as : List Word) (a : Word) (s : State) :
    peekAfter (b :: as) a s = peekAfter as a (dummyRead b s) := rfl

/-- Memory and ROMs have no side effect of reads, and the plain RAM is nothing else (R60). -/
theorem readEffect_flat (a : Word) (s : State) (hf : s.params.platform = .flatRam) : readEffect a s = s.device := by
  simp [readEffect, busReadEffect, readsDevice, hf]

@[simp] theorem readsOf_length (as : List Word) (s : State) : (readsOf as s).length = as.length := by
  induction as generalizing s with
  | nil => rfl
  | cons a as ih => simp only [readsOf, List.length_cons, ih]

/-- No read yet. -/
theorem afterReads_nil (s : State) : afterReads 0 [] s = s := by simp [afterReads, readsOf, deviceAfter]

/-- A first read and then the others. -/
theorem afterReads_cons (a : Word) (as : List Word) (s : State) :
    afterReads 0 (a :: as) s = afterReads 0 as (dummyRead a s) := by
  simp [afterReads, readsOf, deviceAfter, dummyRead, memRead, logBus, Nat.add_assoc, Nat.add_comm 1]

/-- `readEach` is reads alone. -/
theorem readEach_eq (as : List Word) (s : State) : readEach as s = afterReads 0 as s := by
  induction as generalizing s with
  | nil => exact (afterReads_nil s).symm
  | cons a as ih => rw [readEach, ih, afterReads_cons]

/-- The pc plays no part in a later read. -/
@[simp] theorem peek_afterReads (a up : Word) (as : List Word) (s : State) :
    peek a (afterReads up as s) = peekAfter as a s := by
  rw [peekAfter, readEach_eq]
  exact peek_congr a rfl rfl rfl rfl rfl rfl rfl rfl rfl rfl rfl

theorem readEffect_afterReads (a up : Word) (as : List Word) (s : State) :
    readEffect a (afterReads up as s) = readEffect a (afterReads 0 as s) :=
  readEffect_congr a rfl rfl rfl rfl rfl rfl rfl rfl

theorem readEach_append (as bs : List Word) (s : State) : readEach (as ++ bs) s = readEach bs (readEach as s) := by
  induction as generalizing s with
  | nil => rfl
  | cons a as ih => exact ih (dummyRead a s)

theorem readsOf_append (as bs : List Word) (s : State) : readsOf (as ++ bs) s = readsOf as s ++ readsOf bs (readEach as s) := by
  induction as generalizing s with
  | nil => rfl
  | cons a as ih => exact congrArg (_ :: ·) (ih (dummyRead a s))

theorem deviceAfter_append (as bs : List Word) (s : State) :
    deviceAfter (as ++ bs) s = deviceAfter bs (readEach as s) := by
  induction as generalizing s with
  | nil => rfl
  | cons a as ih => exact ih (dummyRead a s)

/-- One more read after some. -/
theorem memRead_afterReads (a up : Word) (as : List Word) (s : State) :
    memRead a (afterReads up as s) = (peekAfter as a s, afterReads up (as ++ [a]) s) := by
  have hd : deviceAfter (as ++ [a]) s = readEffect a (afterReads up as s) := by
    rw [deviceAfter_append, readEach_eq, readEffect_afterReads]
    rfl
  have hr : readsOf (as ++ [a]) s = readsOf as s ++ [.read a (peekAfter as a s)] := readsOf_append as [a] s
  simp only [memRead, peek_afterReads, logBus]
  rw [← hd]
  simp only [afterReads, hr, List.length_append, List.length_cons, List.length_nil, Nat.zero_add, List.append_assoc,
    Nat.add_assoc]

/-- What a read obtains after some reads and then more. -/
@[simp] theorem peekAfter_afterReads (bs : List Word) (a up : Word) (as : List Word) (s : State) :
    peekAfter bs a (afterReads up as s) = peekAfter (as ++ bs) a s := by
  induction bs generalizing as with
  | nil => simp
  | cons b bs ih =>
    rw [peekAfter_cons, dummyRead, memRead_afterReads, ih, List.append_assoc]
    rfl

/-- Away from the port a read asks the bus (R60, R80). -/
theorem peek_of_not_port (a : Word) (s : State) (hp : isPortRegister s.params a = false) : peek a s = busRead s a := by
  unfold isPortRegister at hp
  unfold peek
  by_cases h : s.params.hasIoPort <;> simp_all

/-- On plain RAM, away from the port, a read obtains the byte of RAM (R60). -/
theorem peek_flat (a : Word) (s : State) (hf : s.params.platform = .flatRam) (hp : isPortRegister s.params a = false) :
    peek a s = s.ram.read a.toNat := by
  simp only [peek_of_not_port a s hp, busRead, hf]

/-- So does a read after other reads. -/
theorem peekAfter_flat (as : List Word) (a : Word) (s : State) (hf : s.params.platform = .flatRam)
    (hp : isPortRegister s.params a = false) : peekAfter as a s = s.ram.read a.toNat := by
  rw [peekAfter, readEach_eq]
  exact peek_flat a _ hf hp

theorem dummyRead_afterReads (a up : Word) (as : List Word) (s : State) :
    dummyRead a (afterReads up as s) = afterReads up (as ++ [a]) s := by
  simp only [dummyRead, memRead_afterReads]

/-- One more fetch after some reads. -/
theorem skip_afterReads (up : Word) (as : List Word) (s : State) :
    skip (afterReads up as s) = afterReads (up + 1) (as ++ [s.pc + up]) s := by
  simp only [skip, fetch, afterReads_pc, memRead_afterReads]
  simp [afterReads, BitVec.add_assoc]

theorem skip_eq (s : State) : skip s = afterReads 1 [s.pc] s := by
  rw [← afterReads_nil s, skip_afterReads]
  simp [afterReads, readsOf, deviceAfter]

/-- The opcode fetch and one more. -/
theorem skip_skip (s : State) : skip (skip s) = afterReads 2 [s.pc, s.pc + 1] s := by
  have h := skip_afterReads 1 [s.pc] s
  rwa [← skip_eq] at h

theorem dummyRead_eq (a : Word) (s : State) : dummyRead a s = afterReads 0 [a] s := by
  rw [← afterReads_nil s, dummyRead_afterReads]
  simp [afterReads, readsOf, deviceAfter]

/-- Reads of plain RAM leave the devices' state alone, port or no port (R60). -/
theorem deviceAfter_flat (as : List Word) (s : State) (hf : s.params.platform = .flatRam) : deviceAfter as s = s.device := by
  induction as generalizing s with
  | nil => rfl
  | cons a as ih => exact (ih (dummyRead a s) hf).trans (readEffect_flat a s hf)

/-! Writes. -/

/-- A bus write changes nothing but one byte of the RAM or of the colour RAM, or the devices. -/
theorem busWrite_frame (s : State) (a : Word) (v : Byte) :
    busWrite s a v = { s with
      ram := (busWrite s a v).ram, colorRam := (busWrite s a v).colorRam, device := (busWrite s a v).device } := by
  unfold busWrite c64Write ioWrite
  cases s.params.platform <;> simp only [] <;> (repeat' split) <;> rfl

theorem busWrite_ram (s : State) (a : Word) (v : Byte) :
    (busWrite s a v).ram = s.ram ∨ (busWrite s a v).ram = s.ram.write a.toNat v := by
  unfold busWrite c64Write ioWrite
  cases s.params.platform <;> simp only [] <;> (repeat' split) <;> first | exact .inr rfl | exact .inl rfl | exact .inl trivial

theorem busWrite_colorRam (s : State) (a : Word) (v : Byte) :
    (busWrite s a v).colorRam = s.colorRam ∨ (busWrite s a v).colorRam = s.colorRam.write a.toNat (v &&& 0x0F) := by
  unfold busWrite c64Write ioWrite
  cases s.params.platform <;> simp only [] <;> (repeat' split) <;>
    first | exact .inl rfl | exact .inr rfl | exact .inl trivial

theorem logBus_busWrite (e : BusAccess) (s : State) (a : Word) (v : Byte) :
    logBus e (busWrite s a v) = { s with
      ram := (busWrite s a v).ram, colorRam := (busWrite s a v).colorRam, device := (busWrite s a v).device,
      tick := s.tick + 1,
      accesses := s.accesses ++ [e] } :=
  congrArg (logBus e) (busWrite_frame s a v)

/-- Everything a write cycle can change: the RAM, the colour RAM, the devices, the two port registers, the list of
accesses and the count of cycles. -/
theorem memWrite_frame (a : Word) (v : Byte) (s : State) :
    memWrite a v s = { s with
      ram := (memWrite a v s).ram, colorRam := (memWrite a v s).colorRam, ddr := (memWrite a v s).ddr,
      prLatch := (memWrite a v s).prLatch, device := (memWrite a v s).device, tick := s.tick + 1,
      accesses := s.accesses ++ [.write a (if isPortRegister s.params a then Config.busResidue s.tick else v)] } := by
  unfold memWrite isPortRegister
  by_cases hp : s.params.hasIoPort <;> by_cases h0 : a = 0 <;> by_cases h1 : a = 1 <;>
    simp only [hp, h0, h1, logBus_busWrite, beq_iff_eq, Bool.true_and, Bool.false_and, Bool.or_true, beq_self_eq_true,
      ↓reduceIte, Bool.false_eq_true]
    <;> simp_all

/-- A write leaves every other byte of the RAM alone. -/
theorem memWrite_ram_read_of_ne (a : Word) (v : Byte) (s : State) {x : Nat} (h : x ≠ a.toNat) :
    (memWrite a v s).ram.read x = s.ram.read x := by
  have key : ∀ (t : State) (w : Byte), (busWrite t a w).ram.read x = t.ram.read x := by
    intro t w
    rcases busWrite_ram t a w with e | e <;> rw [e]
    exact Memory.read_write_of_ne _ _ h
  unfold memWrite
  split
  · simp only [logBus_ram, key]
  · split <;> simp only [logBus_ram, key]

/-- A write leaves every other byte of the colour RAM alone. -/
theorem memWrite_colorRam_read_of_ne (a : Word) (v : Byte) (s : State) {x : Nat} (h : x ≠ a.toNat) :
    (memWrite a v s).colorRam.read x = s.colorRam.read x := by
  have key : ∀ (t : State) (w : Byte), (busWrite t a w).colorRam.read x = t.colorRam.read x := by
    intro t w
    rcases busWrite_colorRam t a w with e | e <;> rw [e]
    exact Memory.read_write_of_ne _ _ h
  unfold memWrite
  split
  · simp only [logBus_colorRam, key]
  · split <;> simp only [logBus_colorRam, key]

/-- Away from the port a write is a `BusWrite` (R60, R80). -/
theorem memWrite_of_not_port (a : Word) (v : Byte) (s : State) (hp : isPortRegister s.params a = false) :
    memWrite a v s = logBus (.write a v) (busWrite s a v) := by
  unfold isPortRegister at hp
  unfold memWrite
  by_cases h : s.params.hasIoPort <;> simp_all

/-- On plain RAM, away from the port, a write is a write of the RAM. -/
theorem memWrite_flat (a : Word) (v : Byte) (s : State) (hf : s.params.platform = .flatRam)
    (hp : isPortRegister s.params a = false) : memWrite a v s = logBus (.write a v) (writeRam s a v) := by
  simp only [memWrite_of_not_port a v s hp, busWrite, hf]

@[simp] theorem memWrite_A (a : Word) (v : Byte) (s : State) : (memWrite a v s).A = s.A := by rw [memWrite_frame]
@[simp] theorem memWrite_X (a : Word) (v : Byte) (s : State) : (memWrite a v s).X = s.X := by rw [memWrite_frame]
@[simp] theorem memWrite_Y (a : Word) (v : Byte) (s : State) : (memWrite a v s).Y = s.Y := by rw [memWrite_frame]
@[simp] theorem memWrite_S (a : Word) (v : Byte) (s : State) : (memWrite a v s).S = s.S := by rw [memWrite_frame]
@[simp] theorem memWrite_P (a : Word) (v : Byte) (s : State) : (memWrite a v s).P = s.P := by rw [memWrite_frame]
@[simp] theorem memWrite_pc (a : Word) (v : Byte) (s : State) : (memWrite a v s).pc = s.pc := by rw [memWrite_frame]
@[simp] theorem memWrite_params (a : Word) (v : Byte) (s : State) : (memWrite a v s).params = s.params := by
  rw [memWrite_frame]
@[simp] theorem memWrite_roms (a : Word) (v : Byte) (s : State) : (memWrite a v s).roms = s.roms := by rw [memWrite_frame]
@[simp] theorem memWrite_tick (a : Word) (v : Byte) (s : State) : (memWrite a v s).tick = s.tick + 1 := by
  rw [memWrite_frame]
@[simp] theorem memWrite_jammed (a : Word) (v : Byte) (s : State) : (memWrite a v s).jammed = s.jammed := by
  rw [memWrite_frame]
@[simp] theorem memWrite_nmiPending (a : Word) (v : Byte) (s : State) : (memWrite a v s).nmiPending = s.nmiPending := by
  rw [memWrite_frame]
@[simp] theorem memWrite_accesses (a : Word) (v : Byte) (s : State) : (memWrite a v s).accesses =
    s.accesses ++ [.write a (if isPortRegister s.params a then Config.busResidue s.tick else v)] := by rw [memWrite_frame]

/-! The stack. -/

/-- Everything a push does (R10). -/
theorem push_eq (v : Byte) (s : State) : push v s = { memWrite (wordOf 0x01 s.S) v s with S := s.S - 1 } := by
  simp only [push, stackAddr, memWrite_S]

/-- Everything a pull does (R10). -/
theorem pull_eq (s : State) : pull s =
    (peek (wordOf 0x01 (s.S + 1)) { s with S := s.S + 1 },
     logBus (.read (wordOf 0x01 (s.S + 1)) (peek (wordOf 0x01 (s.S + 1)) s))
       { s with S := s.S + 1, device := readEffect (wordOf 0x01 (s.S + 1)) s }) := rfl

/-! What a write does not read: S, P, pc and the pending bits play no part in it. -/

theorem busWrite_regs (u : State) (a : Word) (v x : Byte) (p : Flags) (c : Word) (n k : Bool) :
    busWrite { u with S := x, P := p, pc := c, nmiPending := n, vectored := k } a v =
      { busWrite u a v with S := x, P := p, pc := c, nmiPending := n, vectored := k } := by
  unfold busWrite c64Write ioWrite currentRegion currentBank lineLevels outsideLevels writeRam
  cases u.params.platform <;> simp only []; repeat' split
  all_goals rfl

/-- A write commutes with any change of S, P, pc and the pending bits. -/
theorem memWrite_regs (u : State) (a : Word) (v x : Byte) (p : Flags) (c : Word) (n k : Bool) :
    memWrite a v { u with S := x, P := p, pc := c, nmiPending := n, vectored := k } =
      { memWrite a v u with S := x, P := p, pc := c, nmiPending := n, vectored := k } := by
  have cut : ∀ w : State, memWrite a v w =
      if (w.params.hasIoPort && a == 0) = true then
        logBus (.write a (Config.busResidue w.tick))
          (busWrite { w with ddr := v &&& portMask w.params } a (Config.busResidue w.tick))
      else if (w.params.hasIoPort && a == 1) = true then
        logBus (.write a (Config.busResidue w.tick))
          (busWrite { w with prLatch := v &&& portMask w.params } a (Config.busResidue w.tick))
      else logBus (.write a v) (busWrite w a v) := fun _ => rfl
  by_cases h0 : (u.params.hasIoPort && a == 0) = true
  · rw [cut u, if_pos h0, cut { u with S := x, P := p, pc := c, nmiPending := n, vectored := k }, if_pos h0]
    exact congrArg (logBus _) (busWrite_regs { u with ddr := v &&& portMask u.params } a _ x p c n k)
  · by_cases h1 : (u.params.hasIoPort && a == 1) = true
    · rw [cut u, if_neg h0, if_pos h1, cut { u with S := x, P := p, pc := c, nmiPending := n, vectored := k }, if_neg h0,
        if_pos h1]
      exact congrArg (logBus _) (busWrite_regs { u with prLatch := v &&& portMask u.params } a _ x p c n k)
    · rw [cut u, if_neg h0, if_neg h1, cut { u with S := x, P := p, pc := c, nmiPending := n, vectored := k }, if_neg h0,
        if_neg h1]
      exact congrArg (logBus _) (busWrite_regs u a v x p c n k)

theorem memWrite_with_S (u : State) (a : Word) (v x : Byte) :
    memWrite a v { u with S := x } = { memWrite a v u with S := x } := by
  have h := memWrite_regs u a v x u.P u.pc u.nmiPending u.vectored
  rw [show ({ u with S := x, P := u.P, pc := u.pc, nmiPending := u.nmiPending, vectored := u.vectored } : State) =
    { u with S := x } from rfl] at h
  rw [h, memWrite_frame]

theorem memWrite_with_pending (u : State) (a : Word) (v : Byte) (n k : Bool) :
    memWrite a v { u with nmiPending := n, vectored := k } = { memWrite a v u with nmiPending := n, vectored := k } := by
  have h := memWrite_regs u a v u.S u.P u.pc n k
  rw [show ({ u with S := u.S, P := u.P, pc := u.pc, nmiPending := n, vectored := k } : State) =
    { u with nmiPending := n, vectored := k } from rfl] at h
  rw [h, memWrite_frame]

theorem memWrite_with_nmiPending (u : State) (a : Word) (v : Byte) (n : Bool) :
    memWrite a v { u with nmiPending := n } = { memWrite a v u with nmiPending := n } := by
  have h := memWrite_regs u a v u.S u.P u.pc n u.vectored
  rw [show ({ u with S := u.S, P := u.P, pc := u.pc, nmiPending := n, vectored := u.vectored } : State) =
    { u with nmiPending := n } from rfl] at h
  rw [h, memWrite_frame]

theorem memWrite_with_vectored (u : State) (a : Word) (v : Byte) (k : Bool) :
    memWrite a v { u with vectored := k } = { memWrite a v u with vectored := k } := by
  have h := memWrite_regs u a v u.S u.P u.pc u.nmiPending k
  rw [show ({ u with S := u.S, P := u.P, pc := u.pc, nmiPending := u.nmiPending, vectored := k } : State) =
    { u with vectored := k } from rfl] at h
  rw [h, memWrite_frame]

/-- A push where S has just been given a value. -/
theorem push_with_S (u : State) (v x : Byte) :
    push v { u with S := x } = { memWrite (wordOf 0x01 x) v u with S := x - 1 } := by
  rw [push_eq]
  exact congrArg (fun t : State => { t with S := x - 1 }) (memWrite_with_S u (wordOf 0x01 x) v x)

/-- Two pushes in a row. -/
theorem push_push (x y : Byte) (s : State) : push y (push x s) =
    { memWrite (wordOf 0x01 (s.S - 1)) y (memWrite (wordOf 0x01 s.S) x s) with S := s.S - 1 - 1 } := by
  rw [push_eq x s]
  exact push_with_S _ y _

/-- Three pushes in a row: the writes of an interrupt's frame, S lower by three (R10, R320). -/
theorem push_push_push (x y z : Byte) (s : State) : push z (push y (push x s)) =
    { memWrite (wordOf 0x01 (s.S - 1 - 1)) z (memWrite (wordOf 0x01 (s.S - 1)) y (memWrite (wordOf 0x01 s.S) x s)) with
      S := s.S - 1 - 1 - 1 } := by
  rw [push_push x y s]
  exact push_with_S _ z _

/-- The byte PHP and BRK push: N V 1 1 D I Z C (R24, R321). -/
theorem statusByte_true (p : Flags) : statusByte true p = BitVec.ofNat 8 (128 * p.n.toNat + 64 * p.v.toNat + 32 + 16 +
    8 * p.d.toNat + 4 * p.i.toNat + 2 * p.z.toNat + p.c.toNat) := rfl

/-- The byte an IRQ or an NMI pushes: N V 1 0 D I Z C (R24, R321). -/
theorem statusByte_false (p : Flags) : statusByte false p = BitVec.ofNat 8 (128 * p.n.toNat + 64 * p.v.toNat + 32 +
    8 * p.d.toNat + 4 * p.i.toNat + 2 * p.z.toNat + p.c.toNat) := rfl

/-- What taking an exception does to the registers (R320): S is lower by three, I is set if `setI`, nothing else but pc
changes. -/
theorem takeException_registers (b setI : Bool) (vector : Word) (s : State) :
    (takeException b setI vector s).A = s.A ∧ (takeException b setI vector s).X = s.X ∧
    (takeException b setI vector s).Y = s.Y ∧ (takeException b setI vector s).S = s.S - 3 ∧
    (takeException b setI vector s).P = { s.P with i := s.P.i || setI } ∧
    (takeException b setI vector s).params = s.params ∧ (takeException b setI vector s).roms = s.roms ∧
    (takeException b setI vector s).jammed = s.jammed := by
  have h3 : s.S - 1#8 - 1#8 - 1#8 = s.S - 3#8 := by simp only [BitVec.sub_sub]; rfl
  refine ⟨?_, ?_, ?_, ?_, ?_, ?_, ?_, ?_⟩ <;> simp [takeException, jumpThrough, push_eq, memRead, h3]

end Sys2Proof.Machine
end

