-- ==== Sys2Proof/Laws/Operands.lean ====
section
/-! SUPPORT. One lemma per addressing operation of Operands.lean: the state it leaves, as reads at a list of addresses. -/

namespace Sys2Proof.Machine

/-- Without a carry out of the low byte the address needs no fixing (R136). -/
theorem indexedBy_fixed (base : Word) (i : Byte) (h : (indexedBy base i).crossed = false) :
    (indexedBy base i).fixed = (indexedBy base i).unfixed := by
  simp only [indexedBy, decide_eq_false_iff_not, Nat.not_lt] at *
  apply BitVec.eq_of_toNat_eq
  simp only [wordOf, hi8, lo8, zext16, BitVec.toNat_add, BitVec.toNat_append, BitVec.extractLsb'_toNat,
    BitVec.truncate_eq_setWidth, BitVec.toNat_setWidth, Nat.shiftLeft_eq] at *
  rw [← Nat.shiftLeft_eq, ← Nat.shiftLeft_add_eq_or_of_lt (by omega), Nat.shiftLeft_eq]
  have := base.isLt
  have := i.isLt
  simp only [Nat.shiftRight_eq_div_pow] at *
  omega

theorem targetOf_fixed (m : MemMode) (s : State) (h : (targetOf m s).crossed = false) :
    (targetOf m s).unfixed = (targetOf m s).fixed := by
  cases m <;> first | rfl | exact (indexedBy_fixed _ _ h).symm

/-- Everything the addressing of a mode does: reads at a list of addresses, and the effective address (R133 to R141). -/
theorem address_eq (m : MemMode) (s : State) :
    address m s = (targetOf m s, afterReads (modeLength m) (addressReads m s) s) := by
  cases m <;>
    simp [address, targetOf, modeLength, addressReads, skip_skip, skip_afterReads, dummyRead_afterReads,
      memRead_afterReads, pointerAfter]

/-- Everything a Read-class operand does (R133 to R136, R140, R141). -/
theorem readOperand_eq (m : MemMode) (s : State) : readOperand m s = (operandByte m s, afterRead m s) := by
  have hf := targetOf_fixed m s
  cases hc : (targetOf m s).crossed <;>
    simp [readOperand, address_eq, memRead_afterReads, operandByte, afterRead, readReads, hc, hf]

theorem settle_eq (m : MemMode) (s : State) :
    settle m (targetOf m s, afterReads (modeLength m) (addressReads m s) s) =
      afterReads (modeLength m) (writeReads m s) s := by
  cases h : fixesHigh m <;> simp [settle, writeReads, h, dummyRead_afterReads]

/-- Everything a Read-Modify-Write operand does (R137, R142, R259). -/
theorem modifyOperand_eq (m : MemMode) (f : Byte → Byte) (s : State) :
    modifyOperand m f s = (oldByte m s, modified m (f (oldByte m s)) s) := by
  simp [modifyOperand, settle_eq, address_eq, memRead_afterReads, modified, oldByte, modifyReads]

/-- Everything a Write-class operand does (R138, R143). -/
theorem writeOperand_eq (m : MemMode) (v : Byte) (s : State) : writeOperand m v s = stored m v s := by
  simp [writeOperand, settle_eq, address_eq, stored]

/-- Everything the store of the SHA family does (R295). -/
theorem writeHighAnd_eq (m : MemMode) (reg : Byte) (s : State) :
    writeHighAnd m reg s = storedHigh m (reg &&& ((targetOf m s).baseHi + 1)) s := by
  simp [writeHighAnd, settle_eq, address_eq, storedHigh, highStoreAddress]

/-! The writes of a mode change no register but pc. -/

@[simp] theorem modified_A (m : MemMode) (v : Byte) (s : State) : (modified m v s).A = s.A := by
  simp [modified]
@[simp] theorem modified_X (m : MemMode) (v : Byte) (s : State) : (modified m v s).X = s.X := by
  simp [modified]
@[simp] theorem modified_Y (m : MemMode) (v : Byte) (s : State) : (modified m v s).Y = s.Y := by
  simp [modified]
@[simp] theorem modified_S (m : MemMode) (v : Byte) (s : State) : (modified m v s).S = s.S := by
  simp [modified]
@[simp] theorem modified_P (m : MemMode) (v : Byte) (s : State) : (modified m v s).P = s.P := by
  simp [modified]
@[simp] theorem modified_params (m : MemMode) (v : Byte) (s : State) : (modified m v s).params = s.params := by
  simp [modified]
@[simp] theorem modified_roms (m : MemMode) (v : Byte) (s : State) : (modified m v s).roms = s.roms := by
  simp [modified]
@[simp] theorem modified_jammed (m : MemMode) (v : Byte) (s : State) : (modified m v s).jammed = s.jammed := by
  simp [modified]
@[simp] theorem modified_nmiPending (m : MemMode) (v : Byte) (s : State) : (modified m v s).nmiPending = s.nmiPending := by
  simp [modified]
@[simp] theorem modified_pc (m : MemMode) (v : Byte) (s : State) : (modified m v s).pc = s.pc + modeLength m := by
  simp [modified]
@[simp] theorem stored_A (m : MemMode) (v : Byte) (s : State) : (stored m v s).A = s.A := by
  simp [stored]
@[simp] theorem stored_X (m : MemMode) (v : Byte) (s : State) : (stored m v s).X = s.X := by
  simp [stored]
@[simp] theorem stored_Y (m : MemMode) (v : Byte) (s : State) : (stored m v s).Y = s.Y := by
  simp [stored]
@[simp] theorem stored_S (m : MemMode) (v : Byte) (s : State) : (stored m v s).S = s.S := by
  simp [stored]
@[simp] theorem stored_P (m : MemMode) (v : Byte) (s : State) : (stored m v s).P = s.P := by
  simp [stored]
@[simp] theorem stored_params (m : MemMode) (v : Byte) (s : State) : (stored m v s).params = s.params := by
  simp [stored]
@[simp] theorem stored_roms (m : MemMode) (v : Byte) (s : State) : (stored m v s).roms = s.roms := by
  simp [stored]
@[simp] theorem stored_jammed (m : MemMode) (v : Byte) (s : State) : (stored m v s).jammed = s.jammed := by
  simp [stored]
@[simp] theorem stored_nmiPending (m : MemMode) (v : Byte) (s : State) : (stored m v s).nmiPending = s.nmiPending := by
  simp [stored]
@[simp] theorem stored_pc (m : MemMode) (v : Byte) (s : State) : (stored m v s).pc = s.pc + modeLength m := by
  simp [stored]
@[simp] theorem storedHigh_A (m : MemMode) (v : Byte) (s : State) : (storedHigh m v s).A = s.A := by
  simp [storedHigh]
@[simp] theorem storedHigh_X (m : MemMode) (v : Byte) (s : State) : (storedHigh m v s).X = s.X := by
  simp [storedHigh]
@[simp] theorem storedHigh_Y (m : MemMode) (v : Byte) (s : State) : (storedHigh m v s).Y = s.Y := by
  simp [storedHigh]
@[simp] theorem storedHigh_S (m : MemMode) (v : Byte) (s : State) : (storedHigh m v s).S = s.S := by
  simp [storedHigh]
@[simp] theorem storedHigh_P (m : MemMode) (v : Byte) (s : State) : (storedHigh m v s).P = s.P := by
  simp [storedHigh]
@[simp] theorem storedHigh_params (m : MemMode) (v : Byte) (s : State) : (storedHigh m v s).params = s.params := by
  simp [storedHigh]
@[simp] theorem storedHigh_roms (m : MemMode) (v : Byte) (s : State) : (storedHigh m v s).roms = s.roms := by
  simp [storedHigh]
@[simp] theorem storedHigh_jammed (m : MemMode) (v : Byte) (s : State) : (storedHigh m v s).jammed = s.jammed := by
  simp [storedHigh]
@[simp] theorem storedHigh_nmiPending (m : MemMode) (v : Byte) (s : State) : (storedHigh m v s).nmiPending = s.nmiPending := by
  simp [storedHigh]
@[simp] theorem storedHigh_pc (m : MemMode) (v : Byte) (s : State) : (storedHigh m v s).pc = s.pc + modeLength m := by
  simp [storedHigh]

/-! The shapes of the instructions. -/

theorem runImplied_eq (op : State → State) (s : State) : runImplied op s = .next (op (afterImplied s)) := by
  simp [runImplied, skip_eq, dummyRead_afterReads, afterImplied]

theorem runImm_eq (op : Byte → State → State) (v : Byte) (s : State) : runImm op v s = .next (op v (afterImmediate s)) := by
  simp [runImm, skip_skip, afterImmediate]

theorem runRead_eq (op : Byte → State → State) (m : MemMode) (s : State) :
    runRead op m s = .next (op (operandByte m s) (afterRead m s)) := by
  simp [runRead, readOperand_eq]

theorem runRmwThen_eq (f : Byte → Flags → Byte × Flags) (after : Byte → State → State) (m : MemMode) (s : State) :
    runRmwThen f after m s = .next (after (f (oldByte m s) s.P).1
      { modified m (f (oldByte m s) s.P).1 s with P := (f (oldByte m s) s.P).2 }) := by
  simp [runRmwThen, modifyOperand_eq]

theorem runStore_eq (value : State → Byte) (m : MemMode) (s : State) :
    runStore value m s = .next (stored m (value s) s) := by
  simp [runStore, writeOperand_eq]

theorem runStoreHigh_eq (value : State → Byte) (m : MemMode) (s : State) :
    runStoreHigh value m s = .next (storedHigh m (value s &&& ((targetOf m s).baseHi + 1)) s) := by
  simp [runStoreHigh, writeHighAnd_eq]

end Sys2Proof.Machine
end

