-- ==== Sys2Proof/Laws/Words.lean ====
section
/-! SUPPORT. The laws of the byte-order helpers of Decode.lean. -/

namespace Sys2Proof

theorem wordOf_toNat (hi lo : Byte) : (wordOf hi lo).toNat = hi.toNat * 256 + lo.toNat := by
  have h := lo.isLt
  rw [wordOf, BitVec.toNat_append, ← Nat.shiftLeft_add_eq_or_of_lt (by omega), Nat.shiftLeft_eq]

theorem lo8_toNat (w : Word) : (lo8 w).toNat = w.toNat % 256 := by simp [lo8]

theorem hi8_toNat (w : Word) : (hi8 w).toNat = w.toNat / 256 := by
  have h := w.isLt
  rw [hi8, BitVec.extractLsb'_toNat, Nat.shiftRight_eq_div_pow]
  omega

@[simp] theorem wordOf_hi8_lo8 (w : Word) : wordOf (hi8 w) (lo8 w) = w := by
  apply BitVec.eq_of_toNat_eq
  rw [wordOf_toNat, hi8_toNat, lo8_toNat]
  omega

@[simp] theorem lo8_wordOf (hi lo : Byte) : lo8 (wordOf hi lo) = lo := by
  apply BitVec.eq_of_toNat_eq
  have h := lo.isLt
  rw [lo8_toNat, wordOf_toNat]
  omega

@[simp] theorem hi8_wordOf (hi lo : Byte) : hi8 (wordOf hi lo) = hi := by
  apply BitVec.eq_of_toNat_eq
  have h := lo.isLt
  rw [hi8_toNat, wordOf_toNat]
  omega

/-- Two addresses are equal exactly when their bytes are. -/
theorem wordOf_inj {h h' l l' : Byte} : wordOf h l = wordOf h' l' ↔ h = h' ∧ l = l' := by
  constructor
  · intro e
    exact ⟨by rw [← hi8_wordOf h l, e, hi8_wordOf], by rw [← lo8_wordOf h l, e, lo8_wordOf]⟩
  · rintro ⟨rfl, rfl⟩; rfl

end Sys2Proof
end

