-- ==== Sys2Proof/Laws/Exec.lean ====
section
/-! SUPPORT. What `exec` can do, said once, by the class of the instruction: later proofs over all instructions split into
the sixteen classes and not into the 256 instructions. -/

namespace Sys2Proof.Machine

/-- A pull after reads alone, with S and P already changed: one more read (R10). -/
theorem pull_afterReads (up : Word) (as : List Word) (s : State) (x : Byte) (p : Flags) :
    pull { afterReads up as s with S := x, P := p } =
      (peekAfter as (wordOf 0x01 (x + 1)) s,
       { afterReads up (as ++ [wordOf 0x01 (x + 1)]) s with S := x + 1, P := p }) := by
  have h := memRead_afterReads (wordOf 0x01 (x + 1)) up as s
  have h' : pull { afterReads up as s with S := x, P := p } =
      ((memRead (wordOf 0x01 (x + 1)) (afterReads up as s)).1,
       { (memRead (wordOf 0x01 (x + 1)) (afterReads up as s)).2 with S := x + 1, P := p }) := rfl
  rw [h', h]

theorem dummyRead_afterReads_stack (a up : Word) (as : List Word) (s : State) (x : Byte) (p : Flags) :
    dummyRead a { afterReads up as s with S := x, P := p } = { afterReads up (as ++ [a]) s with S := x, P := p } := by
  have h := dummyRead_afterReads a up as s
  have h' : dummyRead a { afterReads up as s with S := x, P := p } =
      { dummyRead a (afterReads up as s) with S := x, P := p } := rfl
  rw [h', h]

/-- The two states differ in A, X, Y, S and P at most. -/
def SameButRegisters (t u : State) : Prop := t = { u with A := t.A, X := t.X, Y := t.Y, S := t.S, P := t.P }

/-- What an instruction of a class leaves, as its bus sequence says (40_addressing.md, 41_stack_control.md). -/
def ClassEffect (sh : Shape) (s t : State) : Prop :=
  match sh with
  | .implied => SameButRegisters t (afterImplied s)
  | .immediate => SameButRegisters t (afterImmediate s)
  | .read m => SameButRegisters t (afterRead m s)
  | .modify m => ∃ new, SameButRegisters t (modified m new s)
  | .write m => ∃ v, t = stored m v s
  | .writeHigh m reg => SameButRegisters t (storedHigh m (reg &&& ((targetOf m s).baseHi + 1)) s)
  | .branch taken off => ∃ as, as.length = branchCycles taken off s ∧ t = { afterReads 2 as s with pc := t.pc }
  | .brk => t = brkSequence (afterReads 2 [s.pc, s.pc + 1] s)
  | .ret => ∃ as, as.length = 6 ∧ t = { afterReads 1 as s with S := t.S, P := t.P, pc := t.pc }
  | .push => ∃ v, t = push v (afterImplied s)
  | .pull => ∃ as, as.length = 4 ∧ t = { afterReads 1 as s with A := t.A, S := t.S, P := t.P }
  | .call => ∃ w, t = jsr w s
  | .jump => t = { afterReads 3 [s.pc, s.pc + 1, s.pc + 2] s with pc := t.pc }
  | .jumpIndirect => ∃ as, as.length = 5 ∧ t = { afterReads 3 as s with pc := t.pc }
  | .jam => t = jam (afterImplied s)
  | .rareJam => t = jam (afterImplied s) ∨ t = afterReads 2 [s.pc, s.pc + 1] s

/-- RTI in closed form (R171). -/
theorem rti_eq (s : State) : returnFromException (afterImplied s) =
    { afterReads 1 [s.pc, s.pc + 1, wordOf 0x01 s.S, wordOf 0x01 (s.S + 1), wordOf 0x01 (s.S + 1 + 1),
        wordOf 0x01 (s.S + 1 + 1 + 1)] s with
      S := s.S + 1 + 1 + 1, P := flagsOfByte (peekAfter [s.pc, s.pc + 1, wordOf 0x01 s.S] (wordOf 0x01 (s.S + 1)) s),
      pc := wordOf
        (peekAfter [s.pc, s.pc + 1, wordOf 0x01 s.S, wordOf 0x01 (s.S + 1), wordOf 0x01 (s.S + 1 + 1)]
          (wordOf 0x01 (s.S + 1 + 1 + 1)) s)
        (peekAfter [s.pc, s.pc + 1, wordOf 0x01 s.S, wordOf 0x01 (s.S + 1)] (wordOf 0x01 (s.S + 1 + 1)) s) } := by
  have h0 : afterImplied s = { afterReads 1 [s.pc, s.pc + 1] s with S := s.S, P := s.P } := rfl
  simp only [returnFromException, h0, stackAddr, dummyRead_afterReads_stack, pull_afterReads, List.cons_append,
    List.nil_append]

/-- RTS in closed form (R172). -/
theorem rts_eq (s : State) : rts (afterImplied s) =
    { afterReads 1 [s.pc, s.pc + 1, wordOf 0x01 s.S, wordOf 0x01 (s.S + 1), wordOf 0x01 (s.S + 1 + 1),
        wordOf (peekAfter [s.pc, s.pc + 1, wordOf 0x01 s.S, wordOf 0x01 (s.S + 1)] (wordOf 0x01 (s.S + 1 + 1)) s)
          (peekAfter [s.pc, s.pc + 1, wordOf 0x01 s.S] (wordOf 0x01 (s.S + 1)) s)] s with
      S := s.S + 1 + 1,
      pc := wordOf (peekAfter [s.pc, s.pc + 1, wordOf 0x01 s.S, wordOf 0x01 (s.S + 1)] (wordOf 0x01 (s.S + 1 + 1)) s)
        (peekAfter [s.pc, s.pc + 1, wordOf 0x01 s.S] (wordOf 0x01 (s.S + 1)) s) + 1 } := by
  have h0 : afterImplied s = { afterReads 1 [s.pc, s.pc + 1] s with S := s.S, P := s.P } := rfl
  simp only [rts, h0, stackAddr, dummyRead_afterReads_stack, pull_afterReads, List.cons_append,
    List.nil_append]
  rfl

/-- PLA in closed form (R175). -/
theorem pla_eq (s : State) : pla (afterImplied s) =
    { afterReads 1 [s.pc, s.pc + 1, wordOf 0x01 s.S, wordOf 0x01 (s.S + 1)] s with
      A := peekAfter [s.pc, s.pc + 1, wordOf 0x01 s.S] (wordOf 0x01 (s.S + 1)) s, S := s.S + 1,
      P := setNZ (peekAfter [s.pc, s.pc + 1, wordOf 0x01 s.S] (wordOf 0x01 (s.S + 1)) s) s.P } := by
  have h0 : afterImplied s = { afterReads 1 [s.pc, s.pc + 1] s with S := s.S, P := s.P } := rfl
  simp only [pla, h0, stackAddr, dummyRead_afterReads_stack, pull_afterReads, List.cons_append, List.nil_append]

/-- PLP in closed form (R176). -/
theorem plp_eq (s : State) : plp (afterImplied s) =
    { afterReads 1 [s.pc, s.pc + 1, wordOf 0x01 s.S, wordOf 0x01 (s.S + 1)] s with
      S := s.S + 1, P := flagsOfByte (peekAfter [s.pc, s.pc + 1, wordOf 0x01 s.S] (wordOf 0x01 (s.S + 1)) s) } := by
  have h0 : afterImplied s = { afterReads 1 [s.pc, s.pc + 1] s with S := s.S, P := s.P } := rfl
  simp only [plp, h0, stackAddr, dummyRead_afterReads_stack, pull_afterReads, List.cons_append, List.nil_append]

/-- JSR in closed form (R177). -/
theorem jsr_eq (w : Word) (s : State) : jsr w s =
    (let t := memWrite (wordOf 0x01 (s.S - 1)) (lo8 (s.pc + 2))
      (memWrite (wordOf 0x01 s.S) (hi8 (s.pc + 2)) (afterReads 2 [s.pc, s.pc + 1, wordOf 0x01 s.S] s))
    { afterReads 0 [s.pc + 2] t with S := s.S - 2, pc := wordOf (peek (s.pc + 2) t) (lo8 w) }) := by
  have e : s.S - 1 - 1 = s.S - 2 := by simp only [BitVec.sub_sub]; rfl
  simp only [jsr, skip_skip, dummyRead_afterReads, afterReads_pc, push_push, stackAddr, afterReads_S, e]
  rfl

/-- A vector or pointer fetch after reads alone, into pc (R62). -/
theorem jumpThrough_afterReads (lowAt highAt up : Word) (as : List Word) (s : State) :
    jumpThrough lowAt highAt (afterReads up as s) =
      { afterReads up (as ++ [lowAt, highAt]) s with
        pc := wordOf (peekAfter (as ++ [lowAt]) highAt s) (peekAfter as lowAt s) } := by
  simp only [jumpThrough, memRead_afterReads, List.append_assoc, List.cons_append, List.nil_append]

/-- Everything taking an exception does (R320): three writes below S, the two reads of the vector, S, I and pc. -/
theorem takeException_eq (b setI : Bool) (vector : Word) (s : State) : takeException b setI vector s =
    (let t := memWrite (wordOf 0x01 (s.S - 2)) (statusByte b s.P) (memWrite (wordOf 0x01 (s.S - 1)) (lo8 s.pc)
      (memWrite (wordOf 0x01 s.S) (hi8 s.pc) s))
    { afterReads 0 [vector, vector + 1] t with
      S := s.S - 3, P := { s.P with i := s.P.i || setI },
      pc := wordOf (peekAfter [vector] (vector + 1) t) (peek vector t) }) := by
  have e2 : s.S - 1 - 1 = s.S - 2 := by simp only [BitVec.sub_sub]; rfl
  have e3 : s.S - 2 - 1 = s.S - 3 := by simp only [BitVec.sub_sub]; rfl
  simp only [takeException, push_push_push, e2, e3, memWrite_P]
  generalize memWrite (wordOf 0x01 (s.S - 2)) (statusByte b s.P) (memWrite (wordOf 0x01 (s.S - 1)) (lo8 s.pc)
      (memWrite (wordOf 0x01 s.S) (hi8 s.pc) s)) = u
  have k := jumpThrough_afterReads vector (vector + 1) 0 [] u
  rw [afterReads_nil] at k
  exact congrArg (fun v : State => { v with S := s.S - 3, P := { s.P with i := s.P.i || setI } }) k

/-- The reads of a branch: two, three or four (R139). -/
theorem branch_reads (cond : Flags → Bool) (off : Byte) (s t : State) (h : branch cond off s = .next t) :
    ∃ as, as.length = branchCycles (cond s.P) off s ∧ t = { afterReads 2 as s with pc := t.pc } := by
  simp only [branch, skip_skip, afterReads_P, takeBranch, afterReads_pc, dummyRead_afterReads, Host.Outcome.next.injEq] at h
  subst h
  unfold branchCycles
  split
  · split
    · exact ⟨_, rfl, rfl⟩
    · exact ⟨_, rfl, rfl⟩
  · exact ⟨[s.pc, s.pc + 1], rfl, rfl⟩

theorem implied_class {op : State → State} {s t : State} (h : runImplied op s = .next t)
    (hop : ∀ u, SameButRegisters (op u) u) : SameButRegisters t (afterImplied s) := by
  rw [runImplied_eq, Host.Outcome.next.injEq] at h
  exact h ▸ hop _

theorem immediate_class {op : Byte → State → State} {v : Byte} {s t : State} (h : runImm op v s = .next t)
    (hop : ∀ v u, SameButRegisters (op v u) u) : SameButRegisters t (afterImmediate s) := by
  rw [runImm_eq, Host.Outcome.next.injEq] at h
  exact h ▸ hop _ _

theorem read_class {op : Byte → State → State} {m : MemMode} {s t : State} (h : runRead op m s = .next t)
    (hop : ∀ v u, SameButRegisters (op v u) u) : SameButRegisters t (afterRead m s) := by
  rw [runRead_eq, Host.Outcome.next.injEq] at h
  exact h ▸ hop _ _

theorem modify_class {f : Byte → Flags → Byte × Flags} {after : Byte → State → State} {m : MemMode} {s t : State}
    (h : runRmwThen f after m s = .next t) (hop : ∀ v u, SameButRegisters (after v u) u) :
    ∃ new, SameButRegisters t (modified m new s) := by
  rw [runRmwThen_eq, Host.Outcome.next.injEq] at h
  have h' := h ▸ hop _ _
  exact ⟨_, h'⟩

theorem rmw_class {f : Byte → Flags → Byte × Flags} {m : MemMode} {s t : State} (h : runRmw f m s = .next t) :
    ∃ new, SameButRegisters t (modified m new s) :=
  modify_class (show runRmwThen f (fun _ t => t) m s = .next t from h) fun _ _ => rfl

theorem acc_class {f : Byte → Flags → Byte × Flags} {s t : State} (h : runAcc f s = .next t) :
    SameButRegisters t (afterImplied s) :=
  implied_class (show runImplied (fun t => { t with A := (f t.A t.P).1, P := (f t.A t.P).2 }) s = .next t from h)
    fun _ => rfl

theorem write_class {value : State → Byte} {m : MemMode} {s t : State} (h : runStore value m s = .next t) :
    ∃ v, t = stored m v s := by
  rw [runStore_eq, Host.Outcome.next.injEq] at h
  exact ⟨_, h.symm⟩

theorem writeHigh_class {value : State → Byte} {m : MemMode} {s t : State} (h : runStoreHigh value m s = .next t) :
    SameButRegisters t (storedHigh m (value s &&& ((targetOf m s).baseHi + 1)) s) := by
  rw [runStoreHigh_eq, Host.Outcome.next.injEq] at h
  subst h
  rfl

theorem shs_class {m : MemMode} {s t : State} (h : runShs m s = .next t) :
    SameButRegisters t (storedHigh m (s.A &&& s.X &&& ((targetOf m s).baseHi + 1)) s) := by
  simp only [runShs, writeHighAnd_eq, Host.Outcome.next.injEq] at h
  subst h
  rfl

theorem ror_class {f : State → Result} {s t : State} (h : onRorPart f s = .next t) : f s = .next t := by
  unfold onRorPart at h
  split at h
  · exact h
  · cases h

theorem jam_class {s t : State} (h : runImplied jam s = .next t) : t = jam (afterImplied s) := by
  rw [runImplied_eq, Host.Outcome.next.injEq] at h
  exact h.symm

theorem rareJam_class {v : Byte} {s t : State} (h : rareJamNop v s = .next t) :
    t = jam (afterImplied s) ∨ t = afterReads 2 [s.pc, s.pc + 1] s := by
  simp only [rareJamNop, Host.Outcome.next.injEq] at h
  subst h
  split
  · simp only [skip_eq, dummyRead_afterReads, afterReads_pc]
    exact .inl rfl
  · exact .inr (skip_skip s)


/-! One lemma per instruction. -/

theorem exec_class_brk (s t : State) (h : exec (.brk) s = .next t) : ClassEffect (shapeOf (.brk) s) s t := by
  have e := (Host.Outcome.next.inj h).symm
  rwa [skip_skip] at e

theorem exec_class_oraIzx (b : Byte) (s t : State) (h : exec (.oraIzx b) s = .next t) :
    ClassEffect (shapeOf (.oraIzx b) s) s t := by
  have h : runRead ora (.izx b) s = .next t := h
  exact read_class h fun _ _ => rfl

theorem exec_class_jam02 (s t : State) (h : exec (.jam02) s = .next t) : ClassEffect (shapeOf (.jam02) s) s t := by
  have h : runImplied jam s = .next t := h
  exact jam_class h

theorem exec_class_sloIzx (b : Byte) (s t : State) (h : exec (.sloIzx b) s = .next t) :
    ClassEffect (shapeOf (.sloIzx b) s) s t := by
  have h : runRmwThen asl ora (.izx b) s = .next t := h
  exact modify_class h fun _ _ => rfl

theorem exec_class_nopZp04 (b : Byte) (s t : State) (h : exec (.nopZp04 b) s = .next t) :
    ClassEffect (shapeOf (.nopZp04 b) s) s t := by
  have h : runRead discard (.zp b) s = .next t := h
  exact read_class h fun _ _ => rfl

theorem exec_class_oraZp (b : Byte) (s t : State) (h : exec (.oraZp b) s = .next t) :
    ClassEffect (shapeOf (.oraZp b) s) s t := by
  have h : runRead ora (.zp b) s = .next t := h
  exact read_class h fun _ _ => rfl

theorem exec_class_aslZp (b : Byte) (s t : State) (h : exec (.aslZp b) s = .next t) :
    ClassEffect (shapeOf (.aslZp b) s) s t := by
  have h : runRmw asl (.zp b) s = .next t := h
  exact rmw_class h

theorem exec_class_sloZp (b : Byte) (s t : State) (h : exec (.sloZp b) s = .next t) :
    ClassEffect (shapeOf (.sloZp b) s) s t := by
  have h : runRmwThen asl ora (.zp b) s = .next t := h
  exact modify_class h fun _ _ => rfl

theorem exec_class_php (s t : State) (h : exec (.php) s = .next t) : ClassEffect (shapeOf (.php) s) s t := by
  have e := (runImplied_eq _ _).symm.trans h
  exact ⟨_, (Host.Outcome.next.inj e).symm⟩

theorem exec_class_oraImm (v : Byte) (s t : State) (h : exec (.oraImm v) s = .next t) :
    ClassEffect (shapeOf (.oraImm v) s) s t := by
  have h : runImm ora v s = .next t := h
  exact immediate_class h fun _ _ => rfl

theorem exec_class_aslAcc (s t : State) (h : exec (.aslAcc) s = .next t) : ClassEffect (shapeOf (.aslAcc) s) s t := by
  have h : runAcc asl s = .next t := h
  exact acc_class h

theorem exec_class_ancImm0B (v : Byte) (s t : State) (h : exec (.ancImm0B v) s = .next t) :
    ClassEffect (shapeOf (.ancImm0B v) s) s t := by
  have h : runImm anc v s = .next t := h
  exact immediate_class h fun _ _ => rfl

theorem exec_class_nopAbs0C (w : Word) (s t : State) (h : exec (.nopAbs0C w) s = .next t) :
    ClassEffect (shapeOf (.nopAbs0C w) s) s t := by
  have h : runRead discard (.abs w) s = .next t := h
  exact read_class h fun _ _ => rfl

theorem exec_class_oraAbs (w : Word) (s t : State) (h : exec (.oraAbs w) s = .next t) :
    ClassEffect (shapeOf (.oraAbs w) s) s t := by
  have h : runRead ora (.abs w) s = .next t := h
  exact read_class h fun _ _ => rfl

theorem exec_class_aslAbs (w : Word) (s t : State) (h : exec (.aslAbs w) s = .next t) :
    ClassEffect (shapeOf (.aslAbs w) s) s t := by
  have h : runRmw asl (.abs w) s = .next t := h
  exact rmw_class h

theorem exec_class_sloAbs (w : Word) (s t : State) (h : exec (.sloAbs w) s = .next t) :
    ClassEffect (shapeOf (.sloAbs w) s) s t := by
  have h : runRmwThen asl ora (.abs w) s = .next t := h
  exact modify_class h fun _ _ => rfl

theorem exec_class_bpl (off : Byte) (s t : State) (h : exec (.bpl off) s = .next t) :
    ClassEffect (shapeOf (.bpl off) s) s t := by
  have h : branch (fun p => !p.n) off s = .next t := h
  exact branch_reads _ _ _ _ h

theorem exec_class_oraIzy (b : Byte) (s t : State) (h : exec (.oraIzy b) s = .next t) :
    ClassEffect (shapeOf (.oraIzy b) s) s t := by
  have h : runRead ora (.izy b) s = .next t := h
  exact read_class h fun _ _ => rfl

theorem exec_class_jam12 (s t : State) (h : exec (.jam12) s = .next t) : ClassEffect (shapeOf (.jam12) s) s t := by
  have h : runImplied jam s = .next t := h
  exact jam_class h

theorem exec_class_sloIzy (b : Byte) (s t : State) (h : exec (.sloIzy b) s = .next t) :
    ClassEffect (shapeOf (.sloIzy b) s) s t := by
  have h : runRmwThen asl ora (.izy b) s = .next t := h
  exact modify_class h fun _ _ => rfl

theorem exec_class_nopZpx14 (b : Byte) (s t : State) (h : exec (.nopZpx14 b) s = .next t) :
    ClassEffect (shapeOf (.nopZpx14 b) s) s t := by
  have h : runRead discard (.zpx b) s = .next t := h
  exact read_class h fun _ _ => rfl

theorem exec_class_oraZpx (b : Byte) (s t : State) (h : exec (.oraZpx b) s = .next t) :
    ClassEffect (shapeOf (.oraZpx b) s) s t := by
  have h : runRead ora (.zpx b) s = .next t := h
  exact read_class h fun _ _ => rfl

theorem exec_class_aslZpx (b : Byte) (s t : State) (h : exec (.aslZpx b) s = .next t) :
    ClassEffect (shapeOf (.aslZpx b) s) s t := by
  have h : runRmw asl (.zpx b) s = .next t := h
  exact rmw_class h

theorem exec_class_sloZpx (b : Byte) (s t : State) (h : exec (.sloZpx b) s = .next t) :
    ClassEffect (shapeOf (.sloZpx b) s) s t := by
  have h : runRmwThen asl ora (.zpx b) s = .next t := h
  exact modify_class h fun _ _ => rfl

theorem exec_class_clc (s t : State) (h : exec (.clc) s = .next t) : ClassEffect (shapeOf (.clc) s) s t := by
  have h : runImplied clc s = .next t := h
  exact implied_class h fun _ => rfl

theorem exec_class_oraAby (w : Word) (s t : State) (h : exec (.oraAby w) s = .next t) :
    ClassEffect (shapeOf (.oraAby w) s) s t := by
  have h : runRead ora (.aby w) s = .next t := h
  exact read_class h fun _ _ => rfl

theorem exec_class_nopImp1A (s t : State) (h : exec (.nopImp1A) s = .next t) :
    ClassEffect (shapeOf (.nopImp1A) s) s t := by
  have h : runImplied (fun t => t) s = .next t := h
  exact implied_class h fun _ => rfl

theorem exec_class_sloAby (w : Word) (s t : State) (h : exec (.sloAby w) s = .next t) :
    ClassEffect (shapeOf (.sloAby w) s) s t := by
  have h : runRmwThen asl ora (.aby w) s = .next t := h
  exact modify_class h fun _ _ => rfl

theorem exec_class_nopAbx1C (w : Word) (s t : State) (h : exec (.nopAbx1C w) s = .next t) :
    ClassEffect (shapeOf (.nopAbx1C w) s) s t := by
  have h : runRead discard (.abx w) s = .next t := h
  exact read_class h fun _ _ => rfl

theorem exec_class_oraAbx (w : Word) (s t : State) (h : exec (.oraAbx w) s = .next t) :
    ClassEffect (shapeOf (.oraAbx w) s) s t := by
  have h : runRead ora (.abx w) s = .next t := h
  exact read_class h fun _ _ => rfl

theorem exec_class_aslAbx (w : Word) (s t : State) (h : exec (.aslAbx w) s = .next t) :
    ClassEffect (shapeOf (.aslAbx w) s) s t := by
  have h : runRmw asl (.abx w) s = .next t := h
  exact rmw_class h

theorem exec_class_sloAbx (w : Word) (s t : State) (h : exec (.sloAbx w) s = .next t) :
    ClassEffect (shapeOf (.sloAbx w) s) s t := by
  have h : runRmwThen asl ora (.abx w) s = .next t := h
  exact modify_class h fun _ _ => rfl

theorem exec_class_jsr (w : Word) (s t : State) (h : exec (.jsr w) s = .next t) :
    ClassEffect (shapeOf (.jsr w) s) s t := by
  exact ⟨_, (Host.Outcome.next.inj h).symm⟩

theorem exec_class_andIzx (b : Byte) (s t : State) (h : exec (.andIzx b) s = .next t) :
    ClassEffect (shapeOf (.andIzx b) s) s t := by
  have h : runRead andA (.izx b) s = .next t := h
  exact read_class h fun _ _ => rfl

theorem exec_class_jam22 (s t : State) (h : exec (.jam22) s = .next t) : ClassEffect (shapeOf (.jam22) s) s t := by
  have h : runImplied jam s = .next t := h
  exact jam_class h

theorem exec_class_rlaIzx (b : Byte) (s t : State) (h : exec (.rlaIzx b) s = .next t) :
    ClassEffect (shapeOf (.rlaIzx b) s) s t := by
  have h : runRmwThen rol andA (.izx b) s = .next t := h
  exact modify_class h fun _ _ => rfl

theorem exec_class_bitZp (b : Byte) (s t : State) (h : exec (.bitZp b) s = .next t) :
    ClassEffect (shapeOf (.bitZp b) s) s t := by
  have h : runRead bitTest (.zp b) s = .next t := h
  exact read_class h fun _ _ => rfl

theorem exec_class_andZp (b : Byte) (s t : State) (h : exec (.andZp b) s = .next t) :
    ClassEffect (shapeOf (.andZp b) s) s t := by
  have h : runRead andA (.zp b) s = .next t := h
  exact read_class h fun _ _ => rfl

theorem exec_class_rolZp (b : Byte) (s t : State) (h : exec (.rolZp b) s = .next t) :
    ClassEffect (shapeOf (.rolZp b) s) s t := by
  have h : runRmw rol (.zp b) s = .next t := h
  exact rmw_class h

theorem exec_class_rlaZp (b : Byte) (s t : State) (h : exec (.rlaZp b) s = .next t) :
    ClassEffect (shapeOf (.rlaZp b) s) s t := by
  have h : runRmwThen rol andA (.zp b) s = .next t := h
  exact modify_class h fun _ _ => rfl

theorem exec_class_plp (s t : State) (h : exec (.plp) s = .next t) : ClassEffect (shapeOf (.plp) s) s t := by
  have e := (runImplied_eq _ _).symm.trans h
  rw [plp_eq, Host.Outcome.next.injEq] at e
  subst e
  refine ⟨_, ?_, rfl⟩
  rfl

theorem exec_class_andImm (v : Byte) (s t : State) (h : exec (.andImm v) s = .next t) :
    ClassEffect (shapeOf (.andImm v) s) s t := by
  have h : runImm andA v s = .next t := h
  exact immediate_class h fun _ _ => rfl

theorem exec_class_rolAcc (s t : State) (h : exec (.rolAcc) s = .next t) : ClassEffect (shapeOf (.rolAcc) s) s t := by
  have h : runAcc rol s = .next t := h
  exact acc_class h

theorem exec_class_ancImm2B (v : Byte) (s t : State) (h : exec (.ancImm2B v) s = .next t) :
    ClassEffect (shapeOf (.ancImm2B v) s) s t := by
  have h : runImm anc v s = .next t := h
  exact immediate_class h fun _ _ => rfl

theorem exec_class_bitAbs (w : Word) (s t : State) (h : exec (.bitAbs w) s = .next t) :
    ClassEffect (shapeOf (.bitAbs w) s) s t := by
  have h : runRead bitTest (.abs w) s = .next t := h
  exact read_class h fun _ _ => rfl

theorem exec_class_andAbs (w : Word) (s t : State) (h : exec (.andAbs w) s = .next t) :
    ClassEffect (shapeOf (.andAbs w) s) s t := by
  have h : runRead andA (.abs w) s = .next t := h
  exact read_class h fun _ _ => rfl

theorem exec_class_rolAbs (w : Word) (s t : State) (h : exec (.rolAbs w) s = .next t) :
    ClassEffect (shapeOf (.rolAbs w) s) s t := by
  have h : runRmw rol (.abs w) s = .next t := h
  exact rmw_class h

theorem exec_class_rlaAbs (w : Word) (s t : State) (h : exec (.rlaAbs w) s = .next t) :
    ClassEffect (shapeOf (.rlaAbs w) s) s t := by
  have h : runRmwThen rol andA (.abs w) s = .next t := h
  exact modify_class h fun _ _ => rfl

theorem exec_class_bmi (off : Byte) (s t : State) (h : exec (.bmi off) s = .next t) :
    ClassEffect (shapeOf (.bmi off) s) s t := by
  have h : branch (fun p => p.n) off s = .next t := h
  exact branch_reads _ _ _ _ h

theorem exec_class_andIzy (b : Byte) (s t : State) (h : exec (.andIzy b) s = .next t) :
    ClassEffect (shapeOf (.andIzy b) s) s t := by
  have h : runRead andA (.izy b) s = .next t := h
  exact read_class h fun _ _ => rfl

theorem exec_class_jam32 (s t : State) (h : exec (.jam32) s = .next t) : ClassEffect (shapeOf (.jam32) s) s t := by
  have h : runImplied jam s = .next t := h
  exact jam_class h

theorem exec_class_rlaIzy (b : Byte) (s t : State) (h : exec (.rlaIzy b) s = .next t) :
    ClassEffect (shapeOf (.rlaIzy b) s) s t := by
  have h : runRmwThen rol andA (.izy b) s = .next t := h
  exact modify_class h fun _ _ => rfl

theorem exec_class_nopZpx34 (b : Byte) (s t : State) (h : exec (.nopZpx34 b) s = .next t) :
    ClassEffect (shapeOf (.nopZpx34 b) s) s t := by
  have h : runRead discard (.zpx b) s = .next t := h
  exact read_class h fun _ _ => rfl

theorem exec_class_andZpx (b : Byte) (s t : State) (h : exec (.andZpx b) s = .next t) :
    ClassEffect (shapeOf (.andZpx b) s) s t := by
  have h : runRead andA (.zpx b) s = .next t := h
  exact read_class h fun _ _ => rfl

theorem exec_class_rolZpx (b : Byte) (s t : State) (h : exec (.rolZpx b) s = .next t) :
    ClassEffect (shapeOf (.rolZpx b) s) s t := by
  have h : runRmw rol (.zpx b) s = .next t := h
  exact rmw_class h

theorem exec_class_rlaZpx (b : Byte) (s t : State) (h : exec (.rlaZpx b) s = .next t) :
    ClassEffect (shapeOf (.rlaZpx b) s) s t := by
  have h : runRmwThen rol andA (.zpx b) s = .next t := h
  exact modify_class h fun _ _ => rfl

theorem exec_class_sec (s t : State) (h : exec (.sec) s = .next t) : ClassEffect (shapeOf (.sec) s) s t := by
  have h : runImplied sec s = .next t := h
  exact implied_class h fun _ => rfl

theorem exec_class_andAby (w : Word) (s t : State) (h : exec (.andAby w) s = .next t) :
    ClassEffect (shapeOf (.andAby w) s) s t := by
  have h : runRead andA (.aby w) s = .next t := h
  exact read_class h fun _ _ => rfl

theorem exec_class_nopImp3A (s t : State) (h : exec (.nopImp3A) s = .next t) :
    ClassEffect (shapeOf (.nopImp3A) s) s t := by
  have h : runImplied (fun t => t) s = .next t := h
  exact implied_class h fun _ => rfl

theorem exec_class_rlaAby (w : Word) (s t : State) (h : exec (.rlaAby w) s = .next t) :
    ClassEffect (shapeOf (.rlaAby w) s) s t := by
  have h : runRmwThen rol andA (.aby w) s = .next t := h
  exact modify_class h fun _ _ => rfl

theorem exec_class_nopAbx3C (w : Word) (s t : State) (h : exec (.nopAbx3C w) s = .next t) :
    ClassEffect (shapeOf (.nopAbx3C w) s) s t := by
  have h : runRead discard (.abx w) s = .next t := h
  exact read_class h fun _ _ => rfl

theorem exec_class_andAbx (w : Word) (s t : State) (h : exec (.andAbx w) s = .next t) :
    ClassEffect (shapeOf (.andAbx w) s) s t := by
  have h : runRead andA (.abx w) s = .next t := h
  exact read_class h fun _ _ => rfl

theorem exec_class_rolAbx (w : Word) (s t : State) (h : exec (.rolAbx w) s = .next t) :
    ClassEffect (shapeOf (.rolAbx w) s) s t := by
  have h : runRmw rol (.abx w) s = .next t := h
  exact rmw_class h

theorem exec_class_rlaAbx (w : Word) (s t : State) (h : exec (.rlaAbx w) s = .next t) :
    ClassEffect (shapeOf (.rlaAbx w) s) s t := by
  have h : runRmwThen rol andA (.abx w) s = .next t := h
  exact modify_class h fun _ _ => rfl

theorem exec_class_rti (s t : State) (h : exec (.rti) s = .next t) : ClassEffect (shapeOf (.rti) s) s t := by
  have e := (runImplied_eq _ _).symm.trans h
  rw [rti_eq, Host.Outcome.next.injEq] at e
  subst e
  refine ⟨_, ?_, rfl⟩
  rfl

theorem exec_class_eorIzx (b : Byte) (s t : State) (h : exec (.eorIzx b) s = .next t) :
    ClassEffect (shapeOf (.eorIzx b) s) s t := by
  have h : runRead eor (.izx b) s = .next t := h
  exact read_class h fun _ _ => rfl

theorem exec_class_jam42 (s t : State) (h : exec (.jam42) s = .next t) : ClassEffect (shapeOf (.jam42) s) s t := by
  have h : runImplied jam s = .next t := h
  exact jam_class h

theorem exec_class_sreIzx (b : Byte) (s t : State) (h : exec (.sreIzx b) s = .next t) :
    ClassEffect (shapeOf (.sreIzx b) s) s t := by
  have h : runRmwThen lsr eor (.izx b) s = .next t := h
  exact modify_class h fun _ _ => rfl

theorem exec_class_nopZp44 (b : Byte) (s t : State) (h : exec (.nopZp44 b) s = .next t) :
    ClassEffect (shapeOf (.nopZp44 b) s) s t := by
  have h : runRead discard (.zp b) s = .next t := h
  exact read_class h fun _ _ => rfl

theorem exec_class_eorZp (b : Byte) (s t : State) (h : exec (.eorZp b) s = .next t) :
    ClassEffect (shapeOf (.eorZp b) s) s t := by
  have h : runRead eor (.zp b) s = .next t := h
  exact read_class h fun _ _ => rfl

theorem exec_class_lsrZp (b : Byte) (s t : State) (h : exec (.lsrZp b) s = .next t) :
    ClassEffect (shapeOf (.lsrZp b) s) s t := by
  have h : runRmw lsr (.zp b) s = .next t := h
  exact rmw_class h

theorem exec_class_sreZp (b : Byte) (s t : State) (h : exec (.sreZp b) s = .next t) :
    ClassEffect (shapeOf (.sreZp b) s) s t := by
  have h : runRmwThen lsr eor (.zp b) s = .next t := h
  exact modify_class h fun _ _ => rfl

theorem exec_class_pha (s t : State) (h : exec (.pha) s = .next t) : ClassEffect (shapeOf (.pha) s) s t := by
  have e := (runImplied_eq _ _).symm.trans h
  exact ⟨_, (Host.Outcome.next.inj e).symm⟩

theorem exec_class_eorImm (v : Byte) (s t : State) (h : exec (.eorImm v) s = .next t) :
    ClassEffect (shapeOf (.eorImm v) s) s t := by
  have h : runImm eor v s = .next t := h
  exact immediate_class h fun _ _ => rfl

theorem exec_class_lsrAcc (s t : State) (h : exec (.lsrAcc) s = .next t) : ClassEffect (shapeOf (.lsrAcc) s) s t := by
  have h : runAcc lsr s = .next t := h
  exact acc_class h

theorem exec_class_asrImm (v : Byte) (s t : State) (h : exec (.asrImm v) s = .next t) :
    ClassEffect (shapeOf (.asrImm v) s) s t := by
  have h : runImm asr v s = .next t := h
  exact immediate_class h fun _ _ => rfl

theorem exec_class_jmpAbs (w : Word) (s t : State) (h : exec (.jmpAbs w) s = .next t) :
    ClassEffect (shapeOf (.jmpAbs w) s) s t := by
  have e := Host.Outcome.next.inj h
  simp only [jumpAbsolute, skip_skip, skip_afterReads] at e
  subst e
  rfl

theorem exec_class_eorAbs (w : Word) (s t : State) (h : exec (.eorAbs w) s = .next t) :
    ClassEffect (shapeOf (.eorAbs w) s) s t := by
  have h : runRead eor (.abs w) s = .next t := h
  exact read_class h fun _ _ => rfl

theorem exec_class_lsrAbs (w : Word) (s t : State) (h : exec (.lsrAbs w) s = .next t) :
    ClassEffect (shapeOf (.lsrAbs w) s) s t := by
  have h : runRmw lsr (.abs w) s = .next t := h
  exact rmw_class h

theorem exec_class_sreAbs (w : Word) (s t : State) (h : exec (.sreAbs w) s = .next t) :
    ClassEffect (shapeOf (.sreAbs w) s) s t := by
  have h : runRmwThen lsr eor (.abs w) s = .next t := h
  exact modify_class h fun _ _ => rfl

theorem exec_class_bvc (off : Byte) (s t : State) (h : exec (.bvc off) s = .next t) :
    ClassEffect (shapeOf (.bvc off) s) s t := by
  have h : branch (fun p => !p.v) off s = .next t := h
  exact branch_reads _ _ _ _ h

theorem exec_class_eorIzy (b : Byte) (s t : State) (h : exec (.eorIzy b) s = .next t) :
    ClassEffect (shapeOf (.eorIzy b) s) s t := by
  have h : runRead eor (.izy b) s = .next t := h
  exact read_class h fun _ _ => rfl

theorem exec_class_jam52 (s t : State) (h : exec (.jam52) s = .next t) : ClassEffect (shapeOf (.jam52) s) s t := by
  have h : runImplied jam s = .next t := h
  exact jam_class h

theorem exec_class_sreIzy (b : Byte) (s t : State) (h : exec (.sreIzy b) s = .next t) :
    ClassEffect (shapeOf (.sreIzy b) s) s t := by
  have h : runRmwThen lsr eor (.izy b) s = .next t := h
  exact modify_class h fun _ _ => rfl

theorem exec_class_nopZpx54 (b : Byte) (s t : State) (h : exec (.nopZpx54 b) s = .next t) :
    ClassEffect (shapeOf (.nopZpx54 b) s) s t := by
  have h : runRead discard (.zpx b) s = .next t := h
  exact read_class h fun _ _ => rfl

theorem exec_class_eorZpx (b : Byte) (s t : State) (h : exec (.eorZpx b) s = .next t) :
    ClassEffect (shapeOf (.eorZpx b) s) s t := by
  have h : runRead eor (.zpx b) s = .next t := h
  exact read_class h fun _ _ => rfl

theorem exec_class_lsrZpx (b : Byte) (s t : State) (h : exec (.lsrZpx b) s = .next t) :
    ClassEffect (shapeOf (.lsrZpx b) s) s t := by
  have h : runRmw lsr (.zpx b) s = .next t := h
  exact rmw_class h

theorem exec_class_sreZpx (b : Byte) (s t : State) (h : exec (.sreZpx b) s = .next t) :
    ClassEffect (shapeOf (.sreZpx b) s) s t := by
  have h : runRmwThen lsr eor (.zpx b) s = .next t := h
  exact modify_class h fun _ _ => rfl

theorem exec_class_cli (s t : State) (h : exec (.cli) s = .next t) : ClassEffect (shapeOf (.cli) s) s t := by
  have h : runImplied cli s = .next t := h
  exact implied_class h fun _ => rfl

theorem exec_class_eorAby (w : Word) (s t : State) (h : exec (.eorAby w) s = .next t) :
    ClassEffect (shapeOf (.eorAby w) s) s t := by
  have h : runRead eor (.aby w) s = .next t := h
  exact read_class h fun _ _ => rfl

theorem exec_class_nopImp5A (s t : State) (h : exec (.nopImp5A) s = .next t) :
    ClassEffect (shapeOf (.nopImp5A) s) s t := by
  have h : runImplied (fun t => t) s = .next t := h
  exact implied_class h fun _ => rfl

theorem exec_class_sreAby (w : Word) (s t : State) (h : exec (.sreAby w) s = .next t) :
    ClassEffect (shapeOf (.sreAby w) s) s t := by
  have h : runRmwThen lsr eor (.aby w) s = .next t := h
  exact modify_class h fun _ _ => rfl

theorem exec_class_nopAbx5C (w : Word) (s t : State) (h : exec (.nopAbx5C w) s = .next t) :
    ClassEffect (shapeOf (.nopAbx5C w) s) s t := by
  have h : runRead discard (.abx w) s = .next t := h
  exact read_class h fun _ _ => rfl

theorem exec_class_eorAbx (w : Word) (s t : State) (h : exec (.eorAbx w) s = .next t) :
    ClassEffect (shapeOf (.eorAbx w) s) s t := by
  have h : runRead eor (.abx w) s = .next t := h
  exact read_class h fun _ _ => rfl

theorem exec_class_lsrAbx (w : Word) (s t : State) (h : exec (.lsrAbx w) s = .next t) :
    ClassEffect (shapeOf (.lsrAbx w) s) s t := by
  have h : runRmw lsr (.abx w) s = .next t := h
  exact rmw_class h

theorem exec_class_sreAbx (w : Word) (s t : State) (h : exec (.sreAbx w) s = .next t) :
    ClassEffect (shapeOf (.sreAbx w) s) s t := by
  have h : runRmwThen lsr eor (.abx w) s = .next t := h
  exact modify_class h fun _ _ => rfl

theorem exec_class_rts (s t : State) (h : exec (.rts) s = .next t) : ClassEffect (shapeOf (.rts) s) s t := by
  have e := (runImplied_eq _ _).symm.trans h
  rw [rts_eq, Host.Outcome.next.injEq] at e
  subst e
  refine ⟨_, ?_, rfl⟩
  rfl

theorem exec_class_adcIzx (b : Byte) (s t : State) (h : exec (.adcIzx b) s = .next t) :
    ClassEffect (shapeOf (.adcIzx b) s) s t := by
  have h : runRead adc (.izx b) s = .next t := h
  exact read_class h fun _ _ => rfl

theorem exec_class_jam62 (s t : State) (h : exec (.jam62) s = .next t) : ClassEffect (shapeOf (.jam62) s) s t := by
  have h : runImplied jam s = .next t := h
  exact jam_class h

theorem exec_class_rraIzx (b : Byte) (s t : State) (h : exec (.rraIzx b) s = .next t) :
    ClassEffect (shapeOf (.rraIzx b) s) s t := by
  have h : onRorPart (runRmwThen ror adc (.izx b)) s = .next t := h
  exact modify_class (ror_class h) fun _ _ => rfl

theorem exec_class_nopZp64 (b : Byte) (s t : State) (h : exec (.nopZp64 b) s = .next t) :
    ClassEffect (shapeOf (.nopZp64 b) s) s t := by
  have h : runRead discard (.zp b) s = .next t := h
  exact read_class h fun _ _ => rfl

theorem exec_class_adcZp (b : Byte) (s t : State) (h : exec (.adcZp b) s = .next t) :
    ClassEffect (shapeOf (.adcZp b) s) s t := by
  have h : runRead adc (.zp b) s = .next t := h
  exact read_class h fun _ _ => rfl

theorem exec_class_rorZp (b : Byte) (s t : State) (h : exec (.rorZp b) s = .next t) :
    ClassEffect (shapeOf (.rorZp b) s) s t := by
  have h : onRorPart (runRmw ror (.zp b)) s = .next t := h
  exact rmw_class (ror_class h)

theorem exec_class_rraZp (b : Byte) (s t : State) (h : exec (.rraZp b) s = .next t) :
    ClassEffect (shapeOf (.rraZp b) s) s t := by
  have h : onRorPart (runRmwThen ror adc (.zp b)) s = .next t := h
  exact modify_class (ror_class h) fun _ _ => rfl

theorem exec_class_pla (s t : State) (h : exec (.pla) s = .next t) : ClassEffect (shapeOf (.pla) s) s t := by
  have e := (runImplied_eq _ _).symm.trans h
  rw [pla_eq, Host.Outcome.next.injEq] at e
  subst e
  refine ⟨_, ?_, rfl⟩
  rfl

theorem exec_class_adcImm (v : Byte) (s t : State) (h : exec (.adcImm v) s = .next t) :
    ClassEffect (shapeOf (.adcImm v) s) s t := by
  have h : runImm adc v s = .next t := h
  exact immediate_class h fun _ _ => rfl

theorem exec_class_rorAcc (s t : State) (h : exec (.rorAcc) s = .next t) : ClassEffect (shapeOf (.rorAcc) s) s t := by
  have h : onRorPart (runAcc ror) s = .next t := h
  exact acc_class (ror_class h)

theorem exec_class_arrImm (v : Byte) (s t : State) (h : exec (.arrImm v) s = .next t) :
    ClassEffect (shapeOf (.arrImm v) s) s t := by
  have h : onRorPart (runImm arr v) s = .next t := h
  exact immediate_class (ror_class h) fun _ _ => rfl

theorem exec_class_jmpInd (p : Word) (s t : State) (h : exec (.jmpInd p) s = .next t) :
    ClassEffect (shapeOf (.jmpInd p) s) s t := by
  have e := Host.Outcome.next.inj h
  simp only [jumpIndirect, skip_skip, skip_afterReads, jumpThrough_afterReads] at e
  subst e
  refine ⟨_, ?_, rfl⟩
  rfl

theorem exec_class_adcAbs (w : Word) (s t : State) (h : exec (.adcAbs w) s = .next t) :
    ClassEffect (shapeOf (.adcAbs w) s) s t := by
  have h : runRead adc (.abs w) s = .next t := h
  exact read_class h fun _ _ => rfl

theorem exec_class_rorAbs (w : Word) (s t : State) (h : exec (.rorAbs w) s = .next t) :
    ClassEffect (shapeOf (.rorAbs w) s) s t := by
  have h : onRorPart (runRmw ror (.abs w)) s = .next t := h
  exact rmw_class (ror_class h)

theorem exec_class_rraAbs (w : Word) (s t : State) (h : exec (.rraAbs w) s = .next t) :
    ClassEffect (shapeOf (.rraAbs w) s) s t := by
  have h : onRorPart (runRmwThen ror adc (.abs w)) s = .next t := h
  exact modify_class (ror_class h) fun _ _ => rfl

theorem exec_class_bvs (off : Byte) (s t : State) (h : exec (.bvs off) s = .next t) :
    ClassEffect (shapeOf (.bvs off) s) s t := by
  have h : branch (fun p => p.v) off s = .next t := h
  exact branch_reads _ _ _ _ h

theorem exec_class_adcIzy (b : Byte) (s t : State) (h : exec (.adcIzy b) s = .next t) :
    ClassEffect (shapeOf (.adcIzy b) s) s t := by
  have h : runRead adc (.izy b) s = .next t := h
  exact read_class h fun _ _ => rfl

theorem exec_class_jam72 (s t : State) (h : exec (.jam72) s = .next t) : ClassEffect (shapeOf (.jam72) s) s t := by
  have h : runImplied jam s = .next t := h
  exact jam_class h

theorem exec_class_rraIzy (b : Byte) (s t : State) (h : exec (.rraIzy b) s = .next t) :
    ClassEffect (shapeOf (.rraIzy b) s) s t := by
  have h : onRorPart (runRmwThen ror adc (.izy b)) s = .next t := h
  exact modify_class (ror_class h) fun _ _ => rfl

theorem exec_class_nopZpx74 (b : Byte) (s t : State) (h : exec (.nopZpx74 b) s = .next t) :
    ClassEffect (shapeOf (.nopZpx74 b) s) s t := by
  have h : runRead discard (.zpx b) s = .next t := h
  exact read_class h fun _ _ => rfl

theorem exec_class_adcZpx (b : Byte) (s t : State) (h : exec (.adcZpx b) s = .next t) :
    ClassEffect (shapeOf (.adcZpx b) s) s t := by
  have h : runRead adc (.zpx b) s = .next t := h
  exact read_class h fun _ _ => rfl

theorem exec_class_rorZpx (b : Byte) (s t : State) (h : exec (.rorZpx b) s = .next t) :
    ClassEffect (shapeOf (.rorZpx b) s) s t := by
  have h : onRorPart (runRmw ror (.zpx b)) s = .next t := h
  exact rmw_class (ror_class h)

theorem exec_class_rraZpx (b : Byte) (s t : State) (h : exec (.rraZpx b) s = .next t) :
    ClassEffect (shapeOf (.rraZpx b) s) s t := by
  have h : onRorPart (runRmwThen ror adc (.zpx b)) s = .next t := h
  exact modify_class (ror_class h) fun _ _ => rfl

theorem exec_class_sei (s t : State) (h : exec (.sei) s = .next t) : ClassEffect (shapeOf (.sei) s) s t := by
  have h : runImplied sei s = .next t := h
  exact implied_class h fun _ => rfl

theorem exec_class_adcAby (w : Word) (s t : State) (h : exec (.adcAby w) s = .next t) :
    ClassEffect (shapeOf (.adcAby w) s) s t := by
  have h : runRead adc (.aby w) s = .next t := h
  exact read_class h fun _ _ => rfl

theorem exec_class_nopImp7A (s t : State) (h : exec (.nopImp7A) s = .next t) :
    ClassEffect (shapeOf (.nopImp7A) s) s t := by
  have h : runImplied (fun t => t) s = .next t := h
  exact implied_class h fun _ => rfl

theorem exec_class_rraAby (w : Word) (s t : State) (h : exec (.rraAby w) s = .next t) :
    ClassEffect (shapeOf (.rraAby w) s) s t := by
  have h : onRorPart (runRmwThen ror adc (.aby w)) s = .next t := h
  exact modify_class (ror_class h) fun _ _ => rfl

theorem exec_class_nopAbx7C (w : Word) (s t : State) (h : exec (.nopAbx7C w) s = .next t) :
    ClassEffect (shapeOf (.nopAbx7C w) s) s t := by
  have h : runRead discard (.abx w) s = .next t := h
  exact read_class h fun _ _ => rfl

theorem exec_class_adcAbx (w : Word) (s t : State) (h : exec (.adcAbx w) s = .next t) :
    ClassEffect (shapeOf (.adcAbx w) s) s t := by
  have h : runRead adc (.abx w) s = .next t := h
  exact read_class h fun _ _ => rfl

theorem exec_class_rorAbx (w : Word) (s t : State) (h : exec (.rorAbx w) s = .next t) :
    ClassEffect (shapeOf (.rorAbx w) s) s t := by
  have h : onRorPart (runRmw ror (.abx w)) s = .next t := h
  exact rmw_class (ror_class h)

theorem exec_class_rraAbx (w : Word) (s t : State) (h : exec (.rraAbx w) s = .next t) :
    ClassEffect (shapeOf (.rraAbx w) s) s t := by
  have h : onRorPart (runRmwThen ror adc (.abx w)) s = .next t := h
  exact modify_class (ror_class h) fun _ _ => rfl

theorem exec_class_nopImm80 (v : Byte) (s t : State) (h : exec (.nopImm80 v) s = .next t) :
    ClassEffect (shapeOf (.nopImm80 v) s) s t := by
  have h : runImm discard v s = .next t := h
  exact immediate_class h fun _ _ => rfl

theorem exec_class_staIzx (b : Byte) (s t : State) (h : exec (.staIzx b) s = .next t) :
    ClassEffect (shapeOf (.staIzx b) s) s t := by
  have h : runStore (fun t => t.A) (.izx b) s = .next t := h
  exact write_class h

theorem exec_class_nopImm82 (v : Byte) (s t : State) (h : exec (.nopImm82 v) s = .next t) :
    ClassEffect (shapeOf (.nopImm82 v) s) s t := by
  have h : rareJamNop v s = .next t := h
  exact rareJam_class h

theorem exec_class_saxIzx (b : Byte) (s t : State) (h : exec (.saxIzx b) s = .next t) :
    ClassEffect (shapeOf (.saxIzx b) s) s t := by
  have h : runStore (fun t => t.A &&& t.X) (.izx b) s = .next t := h
  exact write_class h

theorem exec_class_styZp (b : Byte) (s t : State) (h : exec (.styZp b) s = .next t) :
    ClassEffect (shapeOf (.styZp b) s) s t := by
  have h : runStore (fun t => t.Y) (.zp b) s = .next t := h
  exact write_class h

theorem exec_class_staZp (b : Byte) (s t : State) (h : exec (.staZp b) s = .next t) :
    ClassEffect (shapeOf (.staZp b) s) s t := by
  have h : runStore (fun t => t.A) (.zp b) s = .next t := h
  exact write_class h

theorem exec_class_stxZp (b : Byte) (s t : State) (h : exec (.stxZp b) s = .next t) :
    ClassEffect (shapeOf (.stxZp b) s) s t := by
  have h : runStore (fun t => t.X) (.zp b) s = .next t := h
  exact write_class h

theorem exec_class_saxZp (b : Byte) (s t : State) (h : exec (.saxZp b) s = .next t) :
    ClassEffect (shapeOf (.saxZp b) s) s t := by
  have h : runStore (fun t => t.A &&& t.X) (.zp b) s = .next t := h
  exact write_class h

theorem exec_class_dey (s t : State) (h : exec (.dey) s = .next t) : ClassEffect (shapeOf (.dey) s) s t := by
  have h : runImplied dey s = .next t := h
  exact implied_class h fun _ => rfl

theorem exec_class_nopImm89 (v : Byte) (s t : State) (h : exec (.nopImm89 v) s = .next t) :
    ClassEffect (shapeOf (.nopImm89 v) s) s t := by
  have h : runImm discard v s = .next t := h
  exact immediate_class h fun _ _ => rfl

theorem exec_class_txa (s t : State) (h : exec (.txa) s = .next t) : ClassEffect (shapeOf (.txa) s) s t := by
  have h : runImplied txa s = .next t := h
  exact implied_class h fun _ => rfl

theorem exec_class_aneImm (v : Byte) (s t : State) (h : exec (.aneImm v) s = .next t) :
    ClassEffect (shapeOf (.aneImm v) s) s t := by
  have h : runImm ane v s = .next t := h
  exact immediate_class h fun _ _ => rfl

theorem exec_class_styAbs (w : Word) (s t : State) (h : exec (.styAbs w) s = .next t) :
    ClassEffect (shapeOf (.styAbs w) s) s t := by
  have h : runStore (fun t => t.Y) (.abs w) s = .next t := h
  exact write_class h

theorem exec_class_staAbs (w : Word) (s t : State) (h : exec (.staAbs w) s = .next t) :
    ClassEffect (shapeOf (.staAbs w) s) s t := by
  have h : runStore (fun t => t.A) (.abs w) s = .next t := h
  exact write_class h

theorem exec_class_stxAbs (w : Word) (s t : State) (h : exec (.stxAbs w) s = .next t) :
    ClassEffect (shapeOf (.stxAbs w) s) s t := by
  have h : runStore (fun t => t.X) (.abs w) s = .next t := h
  exact write_class h

theorem exec_class_saxAbs (w : Word) (s t : State) (h : exec (.saxAbs w) s = .next t) :
    ClassEffect (shapeOf (.saxAbs w) s) s t := by
  have h : runStore (fun t => t.A &&& t.X) (.abs w) s = .next t := h
  exact write_class h

theorem exec_class_bcc (off : Byte) (s t : State) (h : exec (.bcc off) s = .next t) :
    ClassEffect (shapeOf (.bcc off) s) s t := by
  have h : branch (fun p => !p.c) off s = .next t := h
  exact branch_reads _ _ _ _ h

theorem exec_class_staIzy (b : Byte) (s t : State) (h : exec (.staIzy b) s = .next t) :
    ClassEffect (shapeOf (.staIzy b) s) s t := by
  have h : runStore (fun t => t.A) (.izy b) s = .next t := h
  exact write_class h

theorem exec_class_jam92 (s t : State) (h : exec (.jam92) s = .next t) : ClassEffect (shapeOf (.jam92) s) s t := by
  have h : runImplied jam s = .next t := h
  exact jam_class h

theorem exec_class_shaIzy (b : Byte) (s t : State) (h : exec (.shaIzy b) s = .next t) :
    ClassEffect (shapeOf (.shaIzy b) s) s t := by
  have h : runStoreHigh (fun t => t.A &&& t.X) (.izy b) s = .next t := h
  exact writeHigh_class (value := fun t => t.A &&& t.X) h

theorem exec_class_styZpx (b : Byte) (s t : State) (h : exec (.styZpx b) s = .next t) :
    ClassEffect (shapeOf (.styZpx b) s) s t := by
  have h : runStore (fun t => t.Y) (.zpx b) s = .next t := h
  exact write_class h

theorem exec_class_staZpx (b : Byte) (s t : State) (h : exec (.staZpx b) s = .next t) :
    ClassEffect (shapeOf (.staZpx b) s) s t := by
  have h : runStore (fun t => t.A) (.zpx b) s = .next t := h
  exact write_class h

theorem exec_class_stxZpy (b : Byte) (s t : State) (h : exec (.stxZpy b) s = .next t) :
    ClassEffect (shapeOf (.stxZpy b) s) s t := by
  have h : runStore (fun t => t.X) (.zpy b) s = .next t := h
  exact write_class h

theorem exec_class_saxZpy (b : Byte) (s t : State) (h : exec (.saxZpy b) s = .next t) :
    ClassEffect (shapeOf (.saxZpy b) s) s t := by
  have h : runStore (fun t => t.A &&& t.X) (.zpy b) s = .next t := h
  exact write_class h

theorem exec_class_tya (s t : State) (h : exec (.tya) s = .next t) : ClassEffect (shapeOf (.tya) s) s t := by
  have h : runImplied tya s = .next t := h
  exact implied_class h fun _ => rfl

theorem exec_class_staAby (w : Word) (s t : State) (h : exec (.staAby w) s = .next t) :
    ClassEffect (shapeOf (.staAby w) s) s t := by
  have h : runStore (fun t => t.A) (.aby w) s = .next t := h
  exact write_class h

theorem exec_class_txs (s t : State) (h : exec (.txs) s = .next t) : ClassEffect (shapeOf (.txs) s) s t := by
  have h : runImplied txs s = .next t := h
  exact implied_class h fun _ => rfl

theorem exec_class_shsAby (w : Word) (s t : State) (h : exec (.shsAby w) s = .next t) :
    ClassEffect (shapeOf (.shsAby w) s) s t := by
  have h : runShs (.aby w) s = .next t := h
  exact shs_class h

theorem exec_class_shyAbx (w : Word) (s t : State) (h : exec (.shyAbx w) s = .next t) :
    ClassEffect (shapeOf (.shyAbx w) s) s t := by
  have h : runStoreHigh (fun t => t.Y) (.abx w) s = .next t := h
  exact writeHigh_class (value := fun t => t.Y) h

theorem exec_class_staAbx (w : Word) (s t : State) (h : exec (.staAbx w) s = .next t) :
    ClassEffect (shapeOf (.staAbx w) s) s t := by
  have h : runStore (fun t => t.A) (.abx w) s = .next t := h
  exact write_class h

theorem exec_class_shxAby (w : Word) (s t : State) (h : exec (.shxAby w) s = .next t) :
    ClassEffect (shapeOf (.shxAby w) s) s t := by
  have h : runStoreHigh (fun t => t.X) (.aby w) s = .next t := h
  exact writeHigh_class (value := fun t => t.X) h

theorem exec_class_shaAby (w : Word) (s t : State) (h : exec (.shaAby w) s = .next t) :
    ClassEffect (shapeOf (.shaAby w) s) s t := by
  have h : runStoreHigh (fun t => t.A &&& t.X) (.aby w) s = .next t := h
  exact writeHigh_class (value := fun t => t.A &&& t.X) h

theorem exec_class_ldyImm (v : Byte) (s t : State) (h : exec (.ldyImm v) s = .next t) :
    ClassEffect (shapeOf (.ldyImm v) s) s t := by
  have h : runImm ldy v s = .next t := h
  exact immediate_class h fun _ _ => rfl

theorem exec_class_ldaIzx (b : Byte) (s t : State) (h : exec (.ldaIzx b) s = .next t) :
    ClassEffect (shapeOf (.ldaIzx b) s) s t := by
  have h : runRead lda (.izx b) s = .next t := h
  exact read_class h fun _ _ => rfl

theorem exec_class_ldxImm (v : Byte) (s t : State) (h : exec (.ldxImm v) s = .next t) :
    ClassEffect (shapeOf (.ldxImm v) s) s t := by
  have h : runImm ldx v s = .next t := h
  exact immediate_class h fun _ _ => rfl

theorem exec_class_laxIzx (b : Byte) (s t : State) (h : exec (.laxIzx b) s = .next t) :
    ClassEffect (shapeOf (.laxIzx b) s) s t := by
  have h : runRead lax (.izx b) s = .next t := h
  exact read_class h fun _ _ => rfl

theorem exec_class_ldyZp (b : Byte) (s t : State) (h : exec (.ldyZp b) s = .next t) :
    ClassEffect (shapeOf (.ldyZp b) s) s t := by
  have h : runRead ldy (.zp b) s = .next t := h
  exact read_class h fun _ _ => rfl

theorem exec_class_ldaZp (b : Byte) (s t : State) (h : exec (.ldaZp b) s = .next t) :
    ClassEffect (shapeOf (.ldaZp b) s) s t := by
  have h : runRead lda (.zp b) s = .next t := h
  exact read_class h fun _ _ => rfl

theorem exec_class_ldxZp (b : Byte) (s t : State) (h : exec (.ldxZp b) s = .next t) :
    ClassEffect (shapeOf (.ldxZp b) s) s t := by
  have h : runRead ldx (.zp b) s = .next t := h
  exact read_class h fun _ _ => rfl

theorem exec_class_laxZp (b : Byte) (s t : State) (h : exec (.laxZp b) s = .next t) :
    ClassEffect (shapeOf (.laxZp b) s) s t := by
  have h : runRead lax (.zp b) s = .next t := h
  exact read_class h fun _ _ => rfl

theorem exec_class_tay (s t : State) (h : exec (.tay) s = .next t) : ClassEffect (shapeOf (.tay) s) s t := by
  have h : runImplied tay s = .next t := h
  exact implied_class h fun _ => rfl

theorem exec_class_ldaImm (v : Byte) (s t : State) (h : exec (.ldaImm v) s = .next t) :
    ClassEffect (shapeOf (.ldaImm v) s) s t := by
  have h : runImm lda v s = .next t := h
  exact immediate_class h fun _ _ => rfl

theorem exec_class_tax (s t : State) (h : exec (.tax) s = .next t) : ClassEffect (shapeOf (.tax) s) s t := by
  have h : runImplied tax s = .next t := h
  exact implied_class h fun _ => rfl

theorem exec_class_lxaImm (v : Byte) (s t : State) (h : exec (.lxaImm v) s = .next t) :
    ClassEffect (shapeOf (.lxaImm v) s) s t := by
  have h : runImm lxa v s = .next t := h
  exact immediate_class h fun _ _ => rfl

theorem exec_class_ldyAbs (w : Word) (s t : State) (h : exec (.ldyAbs w) s = .next t) :
    ClassEffect (shapeOf (.ldyAbs w) s) s t := by
  have h : runRead ldy (.abs w) s = .next t := h
  exact read_class h fun _ _ => rfl

theorem exec_class_ldaAbs (w : Word) (s t : State) (h : exec (.ldaAbs w) s = .next t) :
    ClassEffect (shapeOf (.ldaAbs w) s) s t := by
  have h : runRead lda (.abs w) s = .next t := h
  exact read_class h fun _ _ => rfl

theorem exec_class_ldxAbs (w : Word) (s t : State) (h : exec (.ldxAbs w) s = .next t) :
    ClassEffect (shapeOf (.ldxAbs w) s) s t := by
  have h : runRead ldx (.abs w) s = .next t := h
  exact read_class h fun _ _ => rfl

theorem exec_class_laxAbs (w : Word) (s t : State) (h : exec (.laxAbs w) s = .next t) :
    ClassEffect (shapeOf (.laxAbs w) s) s t := by
  have h : runRead lax (.abs w) s = .next t := h
  exact read_class h fun _ _ => rfl

theorem exec_class_bcs (off : Byte) (s t : State) (h : exec (.bcs off) s = .next t) :
    ClassEffect (shapeOf (.bcs off) s) s t := by
  have h : branch (fun p => p.c) off s = .next t := h
  exact branch_reads _ _ _ _ h

theorem exec_class_ldaIzy (b : Byte) (s t : State) (h : exec (.ldaIzy b) s = .next t) :
    ClassEffect (shapeOf (.ldaIzy b) s) s t := by
  have h : runRead lda (.izy b) s = .next t := h
  exact read_class h fun _ _ => rfl

theorem exec_class_jamB2 (s t : State) (h : exec (.jamB2) s = .next t) : ClassEffect (shapeOf (.jamB2) s) s t := by
  have h : runImplied jam s = .next t := h
  exact jam_class h

theorem exec_class_laxIzy (b : Byte) (s t : State) (h : exec (.laxIzy b) s = .next t) :
    ClassEffect (shapeOf (.laxIzy b) s) s t := by
  have h : runRead lax (.izy b) s = .next t := h
  exact read_class h fun _ _ => rfl

theorem exec_class_ldyZpx (b : Byte) (s t : State) (h : exec (.ldyZpx b) s = .next t) :
    ClassEffect (shapeOf (.ldyZpx b) s) s t := by
  have h : runRead ldy (.zpx b) s = .next t := h
  exact read_class h fun _ _ => rfl

theorem exec_class_ldaZpx (b : Byte) (s t : State) (h : exec (.ldaZpx b) s = .next t) :
    ClassEffect (shapeOf (.ldaZpx b) s) s t := by
  have h : runRead lda (.zpx b) s = .next t := h
  exact read_class h fun _ _ => rfl

theorem exec_class_ldxZpy (b : Byte) (s t : State) (h : exec (.ldxZpy b) s = .next t) :
    ClassEffect (shapeOf (.ldxZpy b) s) s t := by
  have h : runRead ldx (.zpy b) s = .next t := h
  exact read_class h fun _ _ => rfl

theorem exec_class_laxZpy (b : Byte) (s t : State) (h : exec (.laxZpy b) s = .next t) :
    ClassEffect (shapeOf (.laxZpy b) s) s t := by
  have h : runRead lax (.zpy b) s = .next t := h
  exact read_class h fun _ _ => rfl

theorem exec_class_clv (s t : State) (h : exec (.clv) s = .next t) : ClassEffect (shapeOf (.clv) s) s t := by
  have h : runImplied clv s = .next t := h
  exact implied_class h fun _ => rfl

theorem exec_class_ldaAby (w : Word) (s t : State) (h : exec (.ldaAby w) s = .next t) :
    ClassEffect (shapeOf (.ldaAby w) s) s t := by
  have h : runRead lda (.aby w) s = .next t := h
  exact read_class h fun _ _ => rfl

theorem exec_class_tsx (s t : State) (h : exec (.tsx) s = .next t) : ClassEffect (shapeOf (.tsx) s) s t := by
  have h : runImplied tsx s = .next t := h
  exact implied_class h fun _ => rfl

theorem exec_class_lasAby (w : Word) (s t : State) (h : exec (.lasAby w) s = .next t) :
    ClassEffect (shapeOf (.lasAby w) s) s t := by
  have h : runRead las (.aby w) s = .next t := h
  exact read_class h fun _ _ => rfl

theorem exec_class_ldyAbx (w : Word) (s t : State) (h : exec (.ldyAbx w) s = .next t) :
    ClassEffect (shapeOf (.ldyAbx w) s) s t := by
  have h : runRead ldy (.abx w) s = .next t := h
  exact read_class h fun _ _ => rfl

theorem exec_class_ldaAbx (w : Word) (s t : State) (h : exec (.ldaAbx w) s = .next t) :
    ClassEffect (shapeOf (.ldaAbx w) s) s t := by
  have h : runRead lda (.abx w) s = .next t := h
  exact read_class h fun _ _ => rfl

theorem exec_class_ldxAby (w : Word) (s t : State) (h : exec (.ldxAby w) s = .next t) :
    ClassEffect (shapeOf (.ldxAby w) s) s t := by
  have h : runRead ldx (.aby w) s = .next t := h
  exact read_class h fun _ _ => rfl

theorem exec_class_laxAby (w : Word) (s t : State) (h : exec (.laxAby w) s = .next t) :
    ClassEffect (shapeOf (.laxAby w) s) s t := by
  have h : runRead lax (.aby w) s = .next t := h
  exact read_class h fun _ _ => rfl

theorem exec_class_cpyImm (v : Byte) (s t : State) (h : exec (.cpyImm v) s = .next t) :
    ClassEffect (shapeOf (.cpyImm v) s) s t := by
  have h : runImm cpy v s = .next t := h
  exact immediate_class h fun _ _ => rfl

theorem exec_class_cmpIzx (b : Byte) (s t : State) (h : exec (.cmpIzx b) s = .next t) :
    ClassEffect (shapeOf (.cmpIzx b) s) s t := by
  have h : runRead cmp (.izx b) s = .next t := h
  exact read_class h fun _ _ => rfl

theorem exec_class_nopImmC2 (v : Byte) (s t : State) (h : exec (.nopImmC2 v) s = .next t) :
    ClassEffect (shapeOf (.nopImmC2 v) s) s t := by
  have h : rareJamNop v s = .next t := h
  exact rareJam_class h

theorem exec_class_dcpIzx (b : Byte) (s t : State) (h : exec (.dcpIzx b) s = .next t) :
    ClassEffect (shapeOf (.dcpIzx b) s) s t := by
  have h : runRmwThen dec cmp (.izx b) s = .next t := h
  exact modify_class h fun _ _ => rfl

theorem exec_class_cpyZp (b : Byte) (s t : State) (h : exec (.cpyZp b) s = .next t) :
    ClassEffect (shapeOf (.cpyZp b) s) s t := by
  have h : runRead cpy (.zp b) s = .next t := h
  exact read_class h fun _ _ => rfl

theorem exec_class_cmpZp (b : Byte) (s t : State) (h : exec (.cmpZp b) s = .next t) :
    ClassEffect (shapeOf (.cmpZp b) s) s t := by
  have h : runRead cmp (.zp b) s = .next t := h
  exact read_class h fun _ _ => rfl

theorem exec_class_decZp (b : Byte) (s t : State) (h : exec (.decZp b) s = .next t) :
    ClassEffect (shapeOf (.decZp b) s) s t := by
  have h : runRmw dec (.zp b) s = .next t := h
  exact rmw_class h

theorem exec_class_dcpZp (b : Byte) (s t : State) (h : exec (.dcpZp b) s = .next t) :
    ClassEffect (shapeOf (.dcpZp b) s) s t := by
  have h : runRmwThen dec cmp (.zp b) s = .next t := h
  exact modify_class h fun _ _ => rfl

theorem exec_class_iny (s t : State) (h : exec (.iny) s = .next t) : ClassEffect (shapeOf (.iny) s) s t := by
  have h : runImplied iny s = .next t := h
  exact implied_class h fun _ => rfl

theorem exec_class_cmpImm (v : Byte) (s t : State) (h : exec (.cmpImm v) s = .next t) :
    ClassEffect (shapeOf (.cmpImm v) s) s t := by
  have h : runImm cmp v s = .next t := h
  exact immediate_class h fun _ _ => rfl

theorem exec_class_dex (s t : State) (h : exec (.dex) s = .next t) : ClassEffect (shapeOf (.dex) s) s t := by
  have h : runImplied dex s = .next t := h
  exact implied_class h fun _ => rfl

theorem exec_class_sbxImm (v : Byte) (s t : State) (h : exec (.sbxImm v) s = .next t) :
    ClassEffect (shapeOf (.sbxImm v) s) s t := by
  have h : runImm sbx v s = .next t := h
  exact immediate_class h fun _ _ => rfl

theorem exec_class_cpyAbs (w : Word) (s t : State) (h : exec (.cpyAbs w) s = .next t) :
    ClassEffect (shapeOf (.cpyAbs w) s) s t := by
  have h : runRead cpy (.abs w) s = .next t := h
  exact read_class h fun _ _ => rfl

theorem exec_class_cmpAbs (w : Word) (s t : State) (h : exec (.cmpAbs w) s = .next t) :
    ClassEffect (shapeOf (.cmpAbs w) s) s t := by
  have h : runRead cmp (.abs w) s = .next t := h
  exact read_class h fun _ _ => rfl

theorem exec_class_decAbs (w : Word) (s t : State) (h : exec (.decAbs w) s = .next t) :
    ClassEffect (shapeOf (.decAbs w) s) s t := by
  have h : runRmw dec (.abs w) s = .next t := h
  exact rmw_class h

theorem exec_class_dcpAbs (w : Word) (s t : State) (h : exec (.dcpAbs w) s = .next t) :
    ClassEffect (shapeOf (.dcpAbs w) s) s t := by
  have h : runRmwThen dec cmp (.abs w) s = .next t := h
  exact modify_class h fun _ _ => rfl

theorem exec_class_bne (off : Byte) (s t : State) (h : exec (.bne off) s = .next t) :
    ClassEffect (shapeOf (.bne off) s) s t := by
  have h : branch (fun p => !p.z) off s = .next t := h
  exact branch_reads _ _ _ _ h

theorem exec_class_cmpIzy (b : Byte) (s t : State) (h : exec (.cmpIzy b) s = .next t) :
    ClassEffect (shapeOf (.cmpIzy b) s) s t := by
  have h : runRead cmp (.izy b) s = .next t := h
  exact read_class h fun _ _ => rfl

theorem exec_class_jamD2 (s t : State) (h : exec (.jamD2) s = .next t) : ClassEffect (shapeOf (.jamD2) s) s t := by
  have h : runImplied jam s = .next t := h
  exact jam_class h

theorem exec_class_dcpIzy (b : Byte) (s t : State) (h : exec (.dcpIzy b) s = .next t) :
    ClassEffect (shapeOf (.dcpIzy b) s) s t := by
  have h : runRmwThen dec cmp (.izy b) s = .next t := h
  exact modify_class h fun _ _ => rfl

theorem exec_class_nopZpxD4 (b : Byte) (s t : State) (h : exec (.nopZpxD4 b) s = .next t) :
    ClassEffect (shapeOf (.nopZpxD4 b) s) s t := by
  have h : runRead discard (.zpx b) s = .next t := h
  exact read_class h fun _ _ => rfl

theorem exec_class_cmpZpx (b : Byte) (s t : State) (h : exec (.cmpZpx b) s = .next t) :
    ClassEffect (shapeOf (.cmpZpx b) s) s t := by
  have h : runRead cmp (.zpx b) s = .next t := h
  exact read_class h fun _ _ => rfl

theorem exec_class_decZpx (b : Byte) (s t : State) (h : exec (.decZpx b) s = .next t) :
    ClassEffect (shapeOf (.decZpx b) s) s t := by
  have h : runRmw dec (.zpx b) s = .next t := h
  exact rmw_class h

theorem exec_class_dcpZpx (b : Byte) (s t : State) (h : exec (.dcpZpx b) s = .next t) :
    ClassEffect (shapeOf (.dcpZpx b) s) s t := by
  have h : runRmwThen dec cmp (.zpx b) s = .next t := h
  exact modify_class h fun _ _ => rfl

theorem exec_class_cld (s t : State) (h : exec (.cld) s = .next t) : ClassEffect (shapeOf (.cld) s) s t := by
  have h : runImplied cld s = .next t := h
  exact implied_class h fun _ => rfl

theorem exec_class_cmpAby (w : Word) (s t : State) (h : exec (.cmpAby w) s = .next t) :
    ClassEffect (shapeOf (.cmpAby w) s) s t := by
  have h : runRead cmp (.aby w) s = .next t := h
  exact read_class h fun _ _ => rfl

theorem exec_class_nopImpDA (s t : State) (h : exec (.nopImpDA) s = .next t) :
    ClassEffect (shapeOf (.nopImpDA) s) s t := by
  have h : runImplied (fun t => t) s = .next t := h
  exact implied_class h fun _ => rfl

theorem exec_class_dcpAby (w : Word) (s t : State) (h : exec (.dcpAby w) s = .next t) :
    ClassEffect (shapeOf (.dcpAby w) s) s t := by
  have h : runRmwThen dec cmp (.aby w) s = .next t := h
  exact modify_class h fun _ _ => rfl

theorem exec_class_nopAbxDC (w : Word) (s t : State) (h : exec (.nopAbxDC w) s = .next t) :
    ClassEffect (shapeOf (.nopAbxDC w) s) s t := by
  have h : runRead discard (.abx w) s = .next t := h
  exact read_class h fun _ _ => rfl

theorem exec_class_cmpAbx (w : Word) (s t : State) (h : exec (.cmpAbx w) s = .next t) :
    ClassEffect (shapeOf (.cmpAbx w) s) s t := by
  have h : runRead cmp (.abx w) s = .next t := h
  exact read_class h fun _ _ => rfl

theorem exec_class_decAbx (w : Word) (s t : State) (h : exec (.decAbx w) s = .next t) :
    ClassEffect (shapeOf (.decAbx w) s) s t := by
  have h : runRmw dec (.abx w) s = .next t := h
  exact rmw_class h

theorem exec_class_dcpAbx (w : Word) (s t : State) (h : exec (.dcpAbx w) s = .next t) :
    ClassEffect (shapeOf (.dcpAbx w) s) s t := by
  have h : runRmwThen dec cmp (.abx w) s = .next t := h
  exact modify_class h fun _ _ => rfl

theorem exec_class_cpxImm (v : Byte) (s t : State) (h : exec (.cpxImm v) s = .next t) :
    ClassEffect (shapeOf (.cpxImm v) s) s t := by
  have h : runImm cpx v s = .next t := h
  exact immediate_class h fun _ _ => rfl

theorem exec_class_sbcIzx (b : Byte) (s t : State) (h : exec (.sbcIzx b) s = .next t) :
    ClassEffect (shapeOf (.sbcIzx b) s) s t := by
  have h : runRead sbc (.izx b) s = .next t := h
  exact read_class h fun _ _ => rfl

theorem exec_class_nopImmE2 (v : Byte) (s t : State) (h : exec (.nopImmE2 v) s = .next t) :
    ClassEffect (shapeOf (.nopImmE2 v) s) s t := by
  have h : rareJamNop v s = .next t := h
  exact rareJam_class h

theorem exec_class_isbIzx (b : Byte) (s t : State) (h : exec (.isbIzx b) s = .next t) :
    ClassEffect (shapeOf (.isbIzx b) s) s t := by
  have h : runRmwThen inc sbc (.izx b) s = .next t := h
  exact modify_class h fun _ _ => rfl

theorem exec_class_cpxZp (b : Byte) (s t : State) (h : exec (.cpxZp b) s = .next t) :
    ClassEffect (shapeOf (.cpxZp b) s) s t := by
  have h : runRead cpx (.zp b) s = .next t := h
  exact read_class h fun _ _ => rfl

theorem exec_class_sbcZp (b : Byte) (s t : State) (h : exec (.sbcZp b) s = .next t) :
    ClassEffect (shapeOf (.sbcZp b) s) s t := by
  have h : runRead sbc (.zp b) s = .next t := h
  exact read_class h fun _ _ => rfl

theorem exec_class_incZp (b : Byte) (s t : State) (h : exec (.incZp b) s = .next t) :
    ClassEffect (shapeOf (.incZp b) s) s t := by
  have h : runRmw inc (.zp b) s = .next t := h
  exact rmw_class h

theorem exec_class_isbZp (b : Byte) (s t : State) (h : exec (.isbZp b) s = .next t) :
    ClassEffect (shapeOf (.isbZp b) s) s t := by
  have h : runRmwThen inc sbc (.zp b) s = .next t := h
  exact modify_class h fun _ _ => rfl

theorem exec_class_inx (s t : State) (h : exec (.inx) s = .next t) : ClassEffect (shapeOf (.inx) s) s t := by
  have h : runImplied inx s = .next t := h
  exact implied_class h fun _ => rfl

theorem exec_class_sbcImm (v : Byte) (s t : State) (h : exec (.sbcImm v) s = .next t) :
    ClassEffect (shapeOf (.sbcImm v) s) s t := by
  have h : runImm sbc v s = .next t := h
  exact immediate_class h fun _ _ => rfl

theorem exec_class_nop (s t : State) (h : exec (.nop) s = .next t) : ClassEffect (shapeOf (.nop) s) s t := by
  have h : runImplied (fun t => t) s = .next t := h
  exact implied_class h fun _ => rfl

theorem exec_class_sbcImmEB (v : Byte) (s t : State) (h : exec (.sbcImmEB v) s = .next t) :
    ClassEffect (shapeOf (.sbcImmEB v) s) s t := by
  have h : runImm sbc v s = .next t := h
  exact immediate_class h fun _ _ => rfl

theorem exec_class_cpxAbs (w : Word) (s t : State) (h : exec (.cpxAbs w) s = .next t) :
    ClassEffect (shapeOf (.cpxAbs w) s) s t := by
  have h : runRead cpx (.abs w) s = .next t := h
  exact read_class h fun _ _ => rfl

theorem exec_class_sbcAbs (w : Word) (s t : State) (h : exec (.sbcAbs w) s = .next t) :
    ClassEffect (shapeOf (.sbcAbs w) s) s t := by
  have h : runRead sbc (.abs w) s = .next t := h
  exact read_class h fun _ _ => rfl

theorem exec_class_incAbs (w : Word) (s t : State) (h : exec (.incAbs w) s = .next t) :
    ClassEffect (shapeOf (.incAbs w) s) s t := by
  have h : runRmw inc (.abs w) s = .next t := h
  exact rmw_class h

theorem exec_class_isbAbs (w : Word) (s t : State) (h : exec (.isbAbs w) s = .next t) :
    ClassEffect (shapeOf (.isbAbs w) s) s t := by
  have h : runRmwThen inc sbc (.abs w) s = .next t := h
  exact modify_class h fun _ _ => rfl

theorem exec_class_beq (off : Byte) (s t : State) (h : exec (.beq off) s = .next t) :
    ClassEffect (shapeOf (.beq off) s) s t := by
  have h : branch (fun p => p.z) off s = .next t := h
  exact branch_reads _ _ _ _ h

theorem exec_class_sbcIzy (b : Byte) (s t : State) (h : exec (.sbcIzy b) s = .next t) :
    ClassEffect (shapeOf (.sbcIzy b) s) s t := by
  have h : runRead sbc (.izy b) s = .next t := h
  exact read_class h fun _ _ => rfl

theorem exec_class_jamF2 (s t : State) (h : exec (.jamF2) s = .next t) : ClassEffect (shapeOf (.jamF2) s) s t := by
  have h : runImplied jam s = .next t := h
  exact jam_class h

theorem exec_class_isbIzy (b : Byte) (s t : State) (h : exec (.isbIzy b) s = .next t) :
    ClassEffect (shapeOf (.isbIzy b) s) s t := by
  have h : runRmwThen inc sbc (.izy b) s = .next t := h
  exact modify_class h fun _ _ => rfl

theorem exec_class_nopZpxF4 (b : Byte) (s t : State) (h : exec (.nopZpxF4 b) s = .next t) :
    ClassEffect (shapeOf (.nopZpxF4 b) s) s t := by
  have h : runRead discard (.zpx b) s = .next t := h
  exact read_class h fun _ _ => rfl

theorem exec_class_sbcZpx (b : Byte) (s t : State) (h : exec (.sbcZpx b) s = .next t) :
    ClassEffect (shapeOf (.sbcZpx b) s) s t := by
  have h : runRead sbc (.zpx b) s = .next t := h
  exact read_class h fun _ _ => rfl

theorem exec_class_incZpx (b : Byte) (s t : State) (h : exec (.incZpx b) s = .next t) :
    ClassEffect (shapeOf (.incZpx b) s) s t := by
  have h : runRmw inc (.zpx b) s = .next t := h
  exact rmw_class h

theorem exec_class_isbZpx (b : Byte) (s t : State) (h : exec (.isbZpx b) s = .next t) :
    ClassEffect (shapeOf (.isbZpx b) s) s t := by
  have h : runRmwThen inc sbc (.zpx b) s = .next t := h
  exact modify_class h fun _ _ => rfl

theorem exec_class_sed (s t : State) (h : exec (.sed) s = .next t) : ClassEffect (shapeOf (.sed) s) s t := by
  have h : runImplied sed s = .next t := h
  exact implied_class h fun _ => rfl

theorem exec_class_sbcAby (w : Word) (s t : State) (h : exec (.sbcAby w) s = .next t) :
    ClassEffect (shapeOf (.sbcAby w) s) s t := by
  have h : runRead sbc (.aby w) s = .next t := h
  exact read_class h fun _ _ => rfl

theorem exec_class_nopImpFA (s t : State) (h : exec (.nopImpFA) s = .next t) :
    ClassEffect (shapeOf (.nopImpFA) s) s t := by
  have h : runImplied (fun t => t) s = .next t := h
  exact implied_class h fun _ => rfl

theorem exec_class_isbAby (w : Word) (s t : State) (h : exec (.isbAby w) s = .next t) :
    ClassEffect (shapeOf (.isbAby w) s) s t := by
  have h : runRmwThen inc sbc (.aby w) s = .next t := h
  exact modify_class h fun _ _ => rfl

theorem exec_class_nopAbxFC (w : Word) (s t : State) (h : exec (.nopAbxFC w) s = .next t) :
    ClassEffect (shapeOf (.nopAbxFC w) s) s t := by
  have h : runRead discard (.abx w) s = .next t := h
  exact read_class h fun _ _ => rfl

theorem exec_class_sbcAbx (w : Word) (s t : State) (h : exec (.sbcAbx w) s = .next t) :
    ClassEffect (shapeOf (.sbcAbx w) s) s t := by
  have h : runRead sbc (.abx w) s = .next t := h
  exact read_class h fun _ _ => rfl

theorem exec_class_incAbx (w : Word) (s t : State) (h : exec (.incAbx w) s = .next t) :
    ClassEffect (shapeOf (.incAbx w) s) s t := by
  have h : runRmw inc (.abx w) s = .next t := h
  exact rmw_class h

theorem exec_class_isbAbx (w : Word) (s t : State) (h : exec (.isbAbx w) s = .next t) :
    ClassEffect (shapeOf (.isbAbx w) s) s t := by
  have h : runRmwThen inc sbc (.abx w) s = .next t := h
  exact modify_class h fun _ _ => rfl

/-- What an instruction that answers a next state leaves. -/
theorem exec_class (i : Instr) (s t : State) (h : exec i s = .next t) : ClassEffect (shapeOf i s) s t := by
  cases i with
  | brk => exact exec_class_brk s t h
  | oraIzx b => exact exec_class_oraIzx b s t h
  | jam02 => exact exec_class_jam02 s t h
  | sloIzx b => exact exec_class_sloIzx b s t h
  | nopZp04 b => exact exec_class_nopZp04 b s t h
  | oraZp b => exact exec_class_oraZp b s t h
  | aslZp b => exact exec_class_aslZp b s t h
  | sloZp b => exact exec_class_sloZp b s t h
  | php => exact exec_class_php s t h
  | oraImm v => exact exec_class_oraImm v s t h
  | aslAcc => exact exec_class_aslAcc s t h
  | ancImm0B v => exact exec_class_ancImm0B v s t h
  | nopAbs0C w => exact exec_class_nopAbs0C w s t h
  | oraAbs w => exact exec_class_oraAbs w s t h
  | aslAbs w => exact exec_class_aslAbs w s t h
  | sloAbs w => exact exec_class_sloAbs w s t h
  | bpl off => exact exec_class_bpl off s t h
  | oraIzy b => exact exec_class_oraIzy b s t h
  | jam12 => exact exec_class_jam12 s t h
  | sloIzy b => exact exec_class_sloIzy b s t h
  | nopZpx14 b => exact exec_class_nopZpx14 b s t h
  | oraZpx b => exact exec_class_oraZpx b s t h
  | aslZpx b => exact exec_class_aslZpx b s t h
  | sloZpx b => exact exec_class_sloZpx b s t h
  | clc => exact exec_class_clc s t h
  | oraAby w => exact exec_class_oraAby w s t h
  | nopImp1A => exact exec_class_nopImp1A s t h
  | sloAby w => exact exec_class_sloAby w s t h
  | nopAbx1C w => exact exec_class_nopAbx1C w s t h
  | oraAbx w => exact exec_class_oraAbx w s t h
  | aslAbx w => exact exec_class_aslAbx w s t h
  | sloAbx w => exact exec_class_sloAbx w s t h
  | jsr w => exact exec_class_jsr w s t h
  | andIzx b => exact exec_class_andIzx b s t h
  | jam22 => exact exec_class_jam22 s t h
  | rlaIzx b => exact exec_class_rlaIzx b s t h
  | bitZp b => exact exec_class_bitZp b s t h
  | andZp b => exact exec_class_andZp b s t h
  | rolZp b => exact exec_class_rolZp b s t h
  | rlaZp b => exact exec_class_rlaZp b s t h
  | plp => exact exec_class_plp s t h
  | andImm v => exact exec_class_andImm v s t h
  | rolAcc => exact exec_class_rolAcc s t h
  | ancImm2B v => exact exec_class_ancImm2B v s t h
  | bitAbs w => exact exec_class_bitAbs w s t h
  | andAbs w => exact exec_class_andAbs w s t h
  | rolAbs w => exact exec_class_rolAbs w s t h
  | rlaAbs w => exact exec_class_rlaAbs w s t h
  | bmi off => exact exec_class_bmi off s t h
  | andIzy b => exact exec_class_andIzy b s t h
  | jam32 => exact exec_class_jam32 s t h
  | rlaIzy b => exact exec_class_rlaIzy b s t h
  | nopZpx34 b => exact exec_class_nopZpx34 b s t h
  | andZpx b => exact exec_class_andZpx b s t h
  | rolZpx b => exact exec_class_rolZpx b s t h
  | rlaZpx b => exact exec_class_rlaZpx b s t h
  | sec => exact exec_class_sec s t h
  | andAby w => exact exec_class_andAby w s t h
  | nopImp3A => exact exec_class_nopImp3A s t h
  | rlaAby w => exact exec_class_rlaAby w s t h
  | nopAbx3C w => exact exec_class_nopAbx3C w s t h
  | andAbx w => exact exec_class_andAbx w s t h
  | rolAbx w => exact exec_class_rolAbx w s t h
  | rlaAbx w => exact exec_class_rlaAbx w s t h
  | rti => exact exec_class_rti s t h
  | eorIzx b => exact exec_class_eorIzx b s t h
  | jam42 => exact exec_class_jam42 s t h
  | sreIzx b => exact exec_class_sreIzx b s t h
  | nopZp44 b => exact exec_class_nopZp44 b s t h
  | eorZp b => exact exec_class_eorZp b s t h
  | lsrZp b => exact exec_class_lsrZp b s t h
  | sreZp b => exact exec_class_sreZp b s t h
  | pha => exact exec_class_pha s t h
  | eorImm v => exact exec_class_eorImm v s t h
  | lsrAcc => exact exec_class_lsrAcc s t h
  | asrImm v => exact exec_class_asrImm v s t h
  | jmpAbs w => exact exec_class_jmpAbs w s t h
  | eorAbs w => exact exec_class_eorAbs w s t h
  | lsrAbs w => exact exec_class_lsrAbs w s t h
  | sreAbs w => exact exec_class_sreAbs w s t h
  | bvc off => exact exec_class_bvc off s t h
  | eorIzy b => exact exec_class_eorIzy b s t h
  | jam52 => exact exec_class_jam52 s t h
  | sreIzy b => exact exec_class_sreIzy b s t h
  | nopZpx54 b => exact exec_class_nopZpx54 b s t h
  | eorZpx b => exact exec_class_eorZpx b s t h
  | lsrZpx b => exact exec_class_lsrZpx b s t h
  | sreZpx b => exact exec_class_sreZpx b s t h
  | cli => exact exec_class_cli s t h
  | eorAby w => exact exec_class_eorAby w s t h
  | nopImp5A => exact exec_class_nopImp5A s t h
  | sreAby w => exact exec_class_sreAby w s t h
  | nopAbx5C w => exact exec_class_nopAbx5C w s t h
  | eorAbx w => exact exec_class_eorAbx w s t h
  | lsrAbx w => exact exec_class_lsrAbx w s t h
  | sreAbx w => exact exec_class_sreAbx w s t h
  | rts => exact exec_class_rts s t h
  | adcIzx b => exact exec_class_adcIzx b s t h
  | jam62 => exact exec_class_jam62 s t h
  | rraIzx b => exact exec_class_rraIzx b s t h
  | nopZp64 b => exact exec_class_nopZp64 b s t h
  | adcZp b => exact exec_class_adcZp b s t h
  | rorZp b => exact exec_class_rorZp b s t h
  | rraZp b => exact exec_class_rraZp b s t h
  | pla => exact exec_class_pla s t h
  | adcImm v => exact exec_class_adcImm v s t h
  | rorAcc => exact exec_class_rorAcc s t h
  | arrImm v => exact exec_class_arrImm v s t h
  | jmpInd p => exact exec_class_jmpInd p s t h
  | adcAbs w => exact exec_class_adcAbs w s t h
  | rorAbs w => exact exec_class_rorAbs w s t h
  | rraAbs w => exact exec_class_rraAbs w s t h
  | bvs off => exact exec_class_bvs off s t h
  | adcIzy b => exact exec_class_adcIzy b s t h
  | jam72 => exact exec_class_jam72 s t h
  | rraIzy b => exact exec_class_rraIzy b s t h
  | nopZpx74 b => exact exec_class_nopZpx74 b s t h
  | adcZpx b => exact exec_class_adcZpx b s t h
  | rorZpx b => exact exec_class_rorZpx b s t h
  | rraZpx b => exact exec_class_rraZpx b s t h
  | sei => exact exec_class_sei s t h
  | adcAby w => exact exec_class_adcAby w s t h
  | nopImp7A => exact exec_class_nopImp7A s t h
  | rraAby w => exact exec_class_rraAby w s t h
  | nopAbx7C w => exact exec_class_nopAbx7C w s t h
  | adcAbx w => exact exec_class_adcAbx w s t h
  | rorAbx w => exact exec_class_rorAbx w s t h
  | rraAbx w => exact exec_class_rraAbx w s t h
  | nopImm80 v => exact exec_class_nopImm80 v s t h
  | staIzx b => exact exec_class_staIzx b s t h
  | nopImm82 v => exact exec_class_nopImm82 v s t h
  | saxIzx b => exact exec_class_saxIzx b s t h
  | styZp b => exact exec_class_styZp b s t h
  | staZp b => exact exec_class_staZp b s t h
  | stxZp b => exact exec_class_stxZp b s t h
  | saxZp b => exact exec_class_saxZp b s t h
  | dey => exact exec_class_dey s t h
  | nopImm89 v => exact exec_class_nopImm89 v s t h
  | txa => exact exec_class_txa s t h
  | aneImm v => exact exec_class_aneImm v s t h
  | styAbs w => exact exec_class_styAbs w s t h
  | staAbs w => exact exec_class_staAbs w s t h
  | stxAbs w => exact exec_class_stxAbs w s t h
  | saxAbs w => exact exec_class_saxAbs w s t h
  | bcc off => exact exec_class_bcc off s t h
  | staIzy b => exact exec_class_staIzy b s t h
  | jam92 => exact exec_class_jam92 s t h
  | shaIzy b => exact exec_class_shaIzy b s t h
  | styZpx b => exact exec_class_styZpx b s t h
  | staZpx b => exact exec_class_staZpx b s t h
  | stxZpy b => exact exec_class_stxZpy b s t h
  | saxZpy b => exact exec_class_saxZpy b s t h
  | tya => exact exec_class_tya s t h
  | staAby w => exact exec_class_staAby w s t h
  | txs => exact exec_class_txs s t h
  | shsAby w => exact exec_class_shsAby w s t h
  | shyAbx w => exact exec_class_shyAbx w s t h
  | staAbx w => exact exec_class_staAbx w s t h
  | shxAby w => exact exec_class_shxAby w s t h
  | shaAby w => exact exec_class_shaAby w s t h
  | ldyImm v => exact exec_class_ldyImm v s t h
  | ldaIzx b => exact exec_class_ldaIzx b s t h
  | ldxImm v => exact exec_class_ldxImm v s t h
  | laxIzx b => exact exec_class_laxIzx b s t h
  | ldyZp b => exact exec_class_ldyZp b s t h
  | ldaZp b => exact exec_class_ldaZp b s t h
  | ldxZp b => exact exec_class_ldxZp b s t h
  | laxZp b => exact exec_class_laxZp b s t h
  | tay => exact exec_class_tay s t h
  | ldaImm v => exact exec_class_ldaImm v s t h
  | tax => exact exec_class_tax s t h
  | lxaImm v => exact exec_class_lxaImm v s t h
  | ldyAbs w => exact exec_class_ldyAbs w s t h
  | ldaAbs w => exact exec_class_ldaAbs w s t h
  | ldxAbs w => exact exec_class_ldxAbs w s t h
  | laxAbs w => exact exec_class_laxAbs w s t h
  | bcs off => exact exec_class_bcs off s t h
  | ldaIzy b => exact exec_class_ldaIzy b s t h
  | jamB2 => exact exec_class_jamB2 s t h
  | laxIzy b => exact exec_class_laxIzy b s t h
  | ldyZpx b => exact exec_class_ldyZpx b s t h
  | ldaZpx b => exact exec_class_ldaZpx b s t h
  | ldxZpy b => exact exec_class_ldxZpy b s t h
  | laxZpy b => exact exec_class_laxZpy b s t h
  | clv => exact exec_class_clv s t h
  | ldaAby w => exact exec_class_ldaAby w s t h
  | tsx => exact exec_class_tsx s t h
  | lasAby w => exact exec_class_lasAby w s t h
  | ldyAbx w => exact exec_class_ldyAbx w s t h
  | ldaAbx w => exact exec_class_ldaAbx w s t h
  | ldxAby w => exact exec_class_ldxAby w s t h
  | laxAby w => exact exec_class_laxAby w s t h
  | cpyImm v => exact exec_class_cpyImm v s t h
  | cmpIzx b => exact exec_class_cmpIzx b s t h
  | nopImmC2 v => exact exec_class_nopImmC2 v s t h
  | dcpIzx b => exact exec_class_dcpIzx b s t h
  | cpyZp b => exact exec_class_cpyZp b s t h
  | cmpZp b => exact exec_class_cmpZp b s t h
  | decZp b => exact exec_class_decZp b s t h
  | dcpZp b => exact exec_class_dcpZp b s t h
  | iny => exact exec_class_iny s t h
  | cmpImm v => exact exec_class_cmpImm v s t h
  | dex => exact exec_class_dex s t h
  | sbxImm v => exact exec_class_sbxImm v s t h
  | cpyAbs w => exact exec_class_cpyAbs w s t h
  | cmpAbs w => exact exec_class_cmpAbs w s t h
  | decAbs w => exact exec_class_decAbs w s t h
  | dcpAbs w => exact exec_class_dcpAbs w s t h
  | bne off => exact exec_class_bne off s t h
  | cmpIzy b => exact exec_class_cmpIzy b s t h
  | jamD2 => exact exec_class_jamD2 s t h
  | dcpIzy b => exact exec_class_dcpIzy b s t h
  | nopZpxD4 b => exact exec_class_nopZpxD4 b s t h
  | cmpZpx b => exact exec_class_cmpZpx b s t h
  | decZpx b => exact exec_class_decZpx b s t h
  | dcpZpx b => exact exec_class_dcpZpx b s t h
  | cld => exact exec_class_cld s t h
  | cmpAby w => exact exec_class_cmpAby w s t h
  | nopImpDA => exact exec_class_nopImpDA s t h
  | dcpAby w => exact exec_class_dcpAby w s t h
  | nopAbxDC w => exact exec_class_nopAbxDC w s t h
  | cmpAbx w => exact exec_class_cmpAbx w s t h
  | decAbx w => exact exec_class_decAbx w s t h
  | dcpAbx w => exact exec_class_dcpAbx w s t h
  | cpxImm v => exact exec_class_cpxImm v s t h
  | sbcIzx b => exact exec_class_sbcIzx b s t h
  | nopImmE2 v => exact exec_class_nopImmE2 v s t h
  | isbIzx b => exact exec_class_isbIzx b s t h
  | cpxZp b => exact exec_class_cpxZp b s t h
  | sbcZp b => exact exec_class_sbcZp b s t h
  | incZp b => exact exec_class_incZp b s t h
  | isbZp b => exact exec_class_isbZp b s t h
  | inx => exact exec_class_inx s t h
  | sbcImm v => exact exec_class_sbcImm v s t h
  | nop => exact exec_class_nop s t h
  | sbcImmEB v => exact exec_class_sbcImmEB v s t h
  | cpxAbs w => exact exec_class_cpxAbs w s t h
  | sbcAbs w => exact exec_class_sbcAbs w s t h
  | incAbs w => exact exec_class_incAbs w s t h
  | isbAbs w => exact exec_class_isbAbs w s t h
  | beq off => exact exec_class_beq off s t h
  | sbcIzy b => exact exec_class_sbcIzy b s t h
  | jamF2 => exact exec_class_jamF2 s t h
  | isbIzy b => exact exec_class_isbIzy b s t h
  | nopZpxF4 b => exact exec_class_nopZpxF4 b s t h
  | sbcZpx b => exact exec_class_sbcZpx b s t h
  | incZpx b => exact exec_class_incZpx b s t h
  | isbZpx b => exact exec_class_isbZpx b s t h
  | sed => exact exec_class_sed s t h
  | sbcAby w => exact exec_class_sbcAby w s t h
  | nopImpFA => exact exec_class_nopImpFA s t h
  | isbAby w => exact exec_class_isbAby w s t h
  | nopAbxFC w => exact exec_class_nopAbxFC w s t h
  | sbcAbx w => exact exec_class_sbcAbx w s t h
  | incAbx w => exact exec_class_incAbx w s t h
  | isbAbx w => exact exec_class_isbAbx w s t h

end Sys2Proof.Machine
end

