-- ==== Sys2Proof/Laws/PerInstr.lean ====
section
/-! SUPPORT. Per-instruction facts about the encoding (30_encoding.md R102). -/

namespace Sys2Proof.Laws.EncodedLength

/-- "one opcode byte followed by zero, one or two operand bytes" (R100): an encoding has one to three bytes. -/
def Statement (i : Instr) : Prop := (encode i).length = 1 ∨ (encode i).length = 2 ∨ (encode i).length = 3

theorem brk : Statement (.brk) := .inl rfl
theorem oraIzx (b : Byte) : Statement (.oraIzx b) := .inr (.inl rfl)
theorem jam02 : Statement (.jam02) := .inl rfl
theorem sloIzx (b : Byte) : Statement (.sloIzx b) := .inr (.inl rfl)
theorem nopZp04 (b : Byte) : Statement (.nopZp04 b) := .inr (.inl rfl)
theorem oraZp (b : Byte) : Statement (.oraZp b) := .inr (.inl rfl)
theorem aslZp (b : Byte) : Statement (.aslZp b) := .inr (.inl rfl)
theorem sloZp (b : Byte) : Statement (.sloZp b) := .inr (.inl rfl)
theorem php : Statement (.php) := .inl rfl
theorem oraImm (v : Byte) : Statement (.oraImm v) := .inr (.inl rfl)
theorem aslAcc : Statement (.aslAcc) := .inl rfl
theorem ancImm0B (v : Byte) : Statement (.ancImm0B v) := .inr (.inl rfl)
theorem nopAbs0C (w : Word) : Statement (.nopAbs0C w) := .inr (.inr rfl)
theorem oraAbs (w : Word) : Statement (.oraAbs w) := .inr (.inr rfl)
theorem aslAbs (w : Word) : Statement (.aslAbs w) := .inr (.inr rfl)
theorem sloAbs (w : Word) : Statement (.sloAbs w) := .inr (.inr rfl)
theorem bpl (off : Byte) : Statement (.bpl off) := .inr (.inl rfl)
theorem oraIzy (b : Byte) : Statement (.oraIzy b) := .inr (.inl rfl)
theorem jam12 : Statement (.jam12) := .inl rfl
theorem sloIzy (b : Byte) : Statement (.sloIzy b) := .inr (.inl rfl)
theorem nopZpx14 (b : Byte) : Statement (.nopZpx14 b) := .inr (.inl rfl)
theorem oraZpx (b : Byte) : Statement (.oraZpx b) := .inr (.inl rfl)
theorem aslZpx (b : Byte) : Statement (.aslZpx b) := .inr (.inl rfl)
theorem sloZpx (b : Byte) : Statement (.sloZpx b) := .inr (.inl rfl)
theorem clc : Statement (.clc) := .inl rfl
theorem oraAby (w : Word) : Statement (.oraAby w) := .inr (.inr rfl)
theorem nopImp1A : Statement (.nopImp1A) := .inl rfl
theorem sloAby (w : Word) : Statement (.sloAby w) := .inr (.inr rfl)
theorem nopAbx1C (w : Word) : Statement (.nopAbx1C w) := .inr (.inr rfl)
theorem oraAbx (w : Word) : Statement (.oraAbx w) := .inr (.inr rfl)
theorem aslAbx (w : Word) : Statement (.aslAbx w) := .inr (.inr rfl)
theorem sloAbx (w : Word) : Statement (.sloAbx w) := .inr (.inr rfl)
theorem jsr (w : Word) : Statement (.jsr w) := .inr (.inr rfl)
theorem andIzx (b : Byte) : Statement (.andIzx b) := .inr (.inl rfl)
theorem jam22 : Statement (.jam22) := .inl rfl
theorem rlaIzx (b : Byte) : Statement (.rlaIzx b) := .inr (.inl rfl)
theorem bitZp (b : Byte) : Statement (.bitZp b) := .inr (.inl rfl)
theorem andZp (b : Byte) : Statement (.andZp b) := .inr (.inl rfl)
theorem rolZp (b : Byte) : Statement (.rolZp b) := .inr (.inl rfl)
theorem rlaZp (b : Byte) : Statement (.rlaZp b) := .inr (.inl rfl)
theorem plp : Statement (.plp) := .inl rfl
theorem andImm (v : Byte) : Statement (.andImm v) := .inr (.inl rfl)
theorem rolAcc : Statement (.rolAcc) := .inl rfl
theorem ancImm2B (v : Byte) : Statement (.ancImm2B v) := .inr (.inl rfl)
theorem bitAbs (w : Word) : Statement (.bitAbs w) := .inr (.inr rfl)
theorem andAbs (w : Word) : Statement (.andAbs w) := .inr (.inr rfl)
theorem rolAbs (w : Word) : Statement (.rolAbs w) := .inr (.inr rfl)
theorem rlaAbs (w : Word) : Statement (.rlaAbs w) := .inr (.inr rfl)
theorem bmi (off : Byte) : Statement (.bmi off) := .inr (.inl rfl)
theorem andIzy (b : Byte) : Statement (.andIzy b) := .inr (.inl rfl)
theorem jam32 : Statement (.jam32) := .inl rfl
theorem rlaIzy (b : Byte) : Statement (.rlaIzy b) := .inr (.inl rfl)
theorem nopZpx34 (b : Byte) : Statement (.nopZpx34 b) := .inr (.inl rfl)
theorem andZpx (b : Byte) : Statement (.andZpx b) := .inr (.inl rfl)
theorem rolZpx (b : Byte) : Statement (.rolZpx b) := .inr (.inl rfl)
theorem rlaZpx (b : Byte) : Statement (.rlaZpx b) := .inr (.inl rfl)
theorem sec : Statement (.sec) := .inl rfl
theorem andAby (w : Word) : Statement (.andAby w) := .inr (.inr rfl)
theorem nopImp3A : Statement (.nopImp3A) := .inl rfl
theorem rlaAby (w : Word) : Statement (.rlaAby w) := .inr (.inr rfl)
theorem nopAbx3C (w : Word) : Statement (.nopAbx3C w) := .inr (.inr rfl)
theorem andAbx (w : Word) : Statement (.andAbx w) := .inr (.inr rfl)
theorem rolAbx (w : Word) : Statement (.rolAbx w) := .inr (.inr rfl)
theorem rlaAbx (w : Word) : Statement (.rlaAbx w) := .inr (.inr rfl)
theorem rti : Statement (.rti) := .inl rfl
theorem eorIzx (b : Byte) : Statement (.eorIzx b) := .inr (.inl rfl)
theorem jam42 : Statement (.jam42) := .inl rfl
theorem sreIzx (b : Byte) : Statement (.sreIzx b) := .inr (.inl rfl)
theorem nopZp44 (b : Byte) : Statement (.nopZp44 b) := .inr (.inl rfl)
theorem eorZp (b : Byte) : Statement (.eorZp b) := .inr (.inl rfl)
theorem lsrZp (b : Byte) : Statement (.lsrZp b) := .inr (.inl rfl)
theorem sreZp (b : Byte) : Statement (.sreZp b) := .inr (.inl rfl)
theorem pha : Statement (.pha) := .inl rfl
theorem eorImm (v : Byte) : Statement (.eorImm v) := .inr (.inl rfl)
theorem lsrAcc : Statement (.lsrAcc) := .inl rfl
theorem asrImm (v : Byte) : Statement (.asrImm v) := .inr (.inl rfl)
theorem jmpAbs (w : Word) : Statement (.jmpAbs w) := .inr (.inr rfl)
theorem eorAbs (w : Word) : Statement (.eorAbs w) := .inr (.inr rfl)
theorem lsrAbs (w : Word) : Statement (.lsrAbs w) := .inr (.inr rfl)
theorem sreAbs (w : Word) : Statement (.sreAbs w) := .inr (.inr rfl)
theorem bvc (off : Byte) : Statement (.bvc off) := .inr (.inl rfl)
theorem eorIzy (b : Byte) : Statement (.eorIzy b) := .inr (.inl rfl)
theorem jam52 : Statement (.jam52) := .inl rfl
theorem sreIzy (b : Byte) : Statement (.sreIzy b) := .inr (.inl rfl)
theorem nopZpx54 (b : Byte) : Statement (.nopZpx54 b) := .inr (.inl rfl)
theorem eorZpx (b : Byte) : Statement (.eorZpx b) := .inr (.inl rfl)
theorem lsrZpx (b : Byte) : Statement (.lsrZpx b) := .inr (.inl rfl)
theorem sreZpx (b : Byte) : Statement (.sreZpx b) := .inr (.inl rfl)
theorem cli : Statement (.cli) := .inl rfl
theorem eorAby (w : Word) : Statement (.eorAby w) := .inr (.inr rfl)
theorem nopImp5A : Statement (.nopImp5A) := .inl rfl
theorem sreAby (w : Word) : Statement (.sreAby w) := .inr (.inr rfl)
theorem nopAbx5C (w : Word) : Statement (.nopAbx5C w) := .inr (.inr rfl)
theorem eorAbx (w : Word) : Statement (.eorAbx w) := .inr (.inr rfl)
theorem lsrAbx (w : Word) : Statement (.lsrAbx w) := .inr (.inr rfl)
theorem sreAbx (w : Word) : Statement (.sreAbx w) := .inr (.inr rfl)
theorem rts : Statement (.rts) := .inl rfl
theorem adcIzx (b : Byte) : Statement (.adcIzx b) := .inr (.inl rfl)
theorem jam62 : Statement (.jam62) := .inl rfl
theorem rraIzx (b : Byte) : Statement (.rraIzx b) := .inr (.inl rfl)
theorem nopZp64 (b : Byte) : Statement (.nopZp64 b) := .inr (.inl rfl)
theorem adcZp (b : Byte) : Statement (.adcZp b) := .inr (.inl rfl)
theorem rorZp (b : Byte) : Statement (.rorZp b) := .inr (.inl rfl)
theorem rraZp (b : Byte) : Statement (.rraZp b) := .inr (.inl rfl)
theorem pla : Statement (.pla) := .inl rfl
theorem adcImm (v : Byte) : Statement (.adcImm v) := .inr (.inl rfl)
theorem rorAcc : Statement (.rorAcc) := .inl rfl
theorem arrImm (v : Byte) : Statement (.arrImm v) := .inr (.inl rfl)
theorem jmpInd (p : Word) : Statement (.jmpInd p) := .inr (.inr rfl)
theorem adcAbs (w : Word) : Statement (.adcAbs w) := .inr (.inr rfl)
theorem rorAbs (w : Word) : Statement (.rorAbs w) := .inr (.inr rfl)
theorem rraAbs (w : Word) : Statement (.rraAbs w) := .inr (.inr rfl)
theorem bvs (off : Byte) : Statement (.bvs off) := .inr (.inl rfl)
theorem adcIzy (b : Byte) : Statement (.adcIzy b) := .inr (.inl rfl)
theorem jam72 : Statement (.jam72) := .inl rfl
theorem rraIzy (b : Byte) : Statement (.rraIzy b) := .inr (.inl rfl)
theorem nopZpx74 (b : Byte) : Statement (.nopZpx74 b) := .inr (.inl rfl)
theorem adcZpx (b : Byte) : Statement (.adcZpx b) := .inr (.inl rfl)
theorem rorZpx (b : Byte) : Statement (.rorZpx b) := .inr (.inl rfl)
theorem rraZpx (b : Byte) : Statement (.rraZpx b) := .inr (.inl rfl)
theorem sei : Statement (.sei) := .inl rfl
theorem adcAby (w : Word) : Statement (.adcAby w) := .inr (.inr rfl)
theorem nopImp7A : Statement (.nopImp7A) := .inl rfl
theorem rraAby (w : Word) : Statement (.rraAby w) := .inr (.inr rfl)
theorem nopAbx7C (w : Word) : Statement (.nopAbx7C w) := .inr (.inr rfl)
theorem adcAbx (w : Word) : Statement (.adcAbx w) := .inr (.inr rfl)
theorem rorAbx (w : Word) : Statement (.rorAbx w) := .inr (.inr rfl)
theorem rraAbx (w : Word) : Statement (.rraAbx w) := .inr (.inr rfl)
theorem nopImm80 (v : Byte) : Statement (.nopImm80 v) := .inr (.inl rfl)
theorem staIzx (b : Byte) : Statement (.staIzx b) := .inr (.inl rfl)
theorem nopImm82 (v : Byte) : Statement (.nopImm82 v) := .inr (.inl rfl)
theorem saxIzx (b : Byte) : Statement (.saxIzx b) := .inr (.inl rfl)
theorem styZp (b : Byte) : Statement (.styZp b) := .inr (.inl rfl)
theorem staZp (b : Byte) : Statement (.staZp b) := .inr (.inl rfl)
theorem stxZp (b : Byte) : Statement (.stxZp b) := .inr (.inl rfl)
theorem saxZp (b : Byte) : Statement (.saxZp b) := .inr (.inl rfl)
theorem dey : Statement (.dey) := .inl rfl
theorem nopImm89 (v : Byte) : Statement (.nopImm89 v) := .inr (.inl rfl)
theorem txa : Statement (.txa) := .inl rfl
theorem aneImm (v : Byte) : Statement (.aneImm v) := .inr (.inl rfl)
theorem styAbs (w : Word) : Statement (.styAbs w) := .inr (.inr rfl)
theorem staAbs (w : Word) : Statement (.staAbs w) := .inr (.inr rfl)
theorem stxAbs (w : Word) : Statement (.stxAbs w) := .inr (.inr rfl)
theorem saxAbs (w : Word) : Statement (.saxAbs w) := .inr (.inr rfl)
theorem bcc (off : Byte) : Statement (.bcc off) := .inr (.inl rfl)
theorem staIzy (b : Byte) : Statement (.staIzy b) := .inr (.inl rfl)
theorem jam92 : Statement (.jam92) := .inl rfl
theorem shaIzy (b : Byte) : Statement (.shaIzy b) := .inr (.inl rfl)
theorem styZpx (b : Byte) : Statement (.styZpx b) := .inr (.inl rfl)
theorem staZpx (b : Byte) : Statement (.staZpx b) := .inr (.inl rfl)
theorem stxZpy (b : Byte) : Statement (.stxZpy b) := .inr (.inl rfl)
theorem saxZpy (b : Byte) : Statement (.saxZpy b) := .inr (.inl rfl)
theorem tya : Statement (.tya) := .inl rfl
theorem staAby (w : Word) : Statement (.staAby w) := .inr (.inr rfl)
theorem txs : Statement (.txs) := .inl rfl
theorem shsAby (w : Word) : Statement (.shsAby w) := .inr (.inr rfl)
theorem shyAbx (w : Word) : Statement (.shyAbx w) := .inr (.inr rfl)
theorem staAbx (w : Word) : Statement (.staAbx w) := .inr (.inr rfl)
theorem shxAby (w : Word) : Statement (.shxAby w) := .inr (.inr rfl)
theorem shaAby (w : Word) : Statement (.shaAby w) := .inr (.inr rfl)
theorem ldyImm (v : Byte) : Statement (.ldyImm v) := .inr (.inl rfl)
theorem ldaIzx (b : Byte) : Statement (.ldaIzx b) := .inr (.inl rfl)
theorem ldxImm (v : Byte) : Statement (.ldxImm v) := .inr (.inl rfl)
theorem laxIzx (b : Byte) : Statement (.laxIzx b) := .inr (.inl rfl)
theorem ldyZp (b : Byte) : Statement (.ldyZp b) := .inr (.inl rfl)
theorem ldaZp (b : Byte) : Statement (.ldaZp b) := .inr (.inl rfl)
theorem ldxZp (b : Byte) : Statement (.ldxZp b) := .inr (.inl rfl)
theorem laxZp (b : Byte) : Statement (.laxZp b) := .inr (.inl rfl)
theorem tay : Statement (.tay) := .inl rfl
theorem ldaImm (v : Byte) : Statement (.ldaImm v) := .inr (.inl rfl)
theorem tax : Statement (.tax) := .inl rfl
theorem lxaImm (v : Byte) : Statement (.lxaImm v) := .inr (.inl rfl)
theorem ldyAbs (w : Word) : Statement (.ldyAbs w) := .inr (.inr rfl)
theorem ldaAbs (w : Word) : Statement (.ldaAbs w) := .inr (.inr rfl)
theorem ldxAbs (w : Word) : Statement (.ldxAbs w) := .inr (.inr rfl)
theorem laxAbs (w : Word) : Statement (.laxAbs w) := .inr (.inr rfl)
theorem bcs (off : Byte) : Statement (.bcs off) := .inr (.inl rfl)
theorem ldaIzy (b : Byte) : Statement (.ldaIzy b) := .inr (.inl rfl)
theorem jamB2 : Statement (.jamB2) := .inl rfl
theorem laxIzy (b : Byte) : Statement (.laxIzy b) := .inr (.inl rfl)
theorem ldyZpx (b : Byte) : Statement (.ldyZpx b) := .inr (.inl rfl)
theorem ldaZpx (b : Byte) : Statement (.ldaZpx b) := .inr (.inl rfl)
theorem ldxZpy (b : Byte) : Statement (.ldxZpy b) := .inr (.inl rfl)
theorem laxZpy (b : Byte) : Statement (.laxZpy b) := .inr (.inl rfl)
theorem clv : Statement (.clv) := .inl rfl
theorem ldaAby (w : Word) : Statement (.ldaAby w) := .inr (.inr rfl)
theorem tsx : Statement (.tsx) := .inl rfl
theorem lasAby (w : Word) : Statement (.lasAby w) := .inr (.inr rfl)
theorem ldyAbx (w : Word) : Statement (.ldyAbx w) := .inr (.inr rfl)
theorem ldaAbx (w : Word) : Statement (.ldaAbx w) := .inr (.inr rfl)
theorem ldxAby (w : Word) : Statement (.ldxAby w) := .inr (.inr rfl)
theorem laxAby (w : Word) : Statement (.laxAby w) := .inr (.inr rfl)
theorem cpyImm (v : Byte) : Statement (.cpyImm v) := .inr (.inl rfl)
theorem cmpIzx (b : Byte) : Statement (.cmpIzx b) := .inr (.inl rfl)
theorem nopImmC2 (v : Byte) : Statement (.nopImmC2 v) := .inr (.inl rfl)
theorem dcpIzx (b : Byte) : Statement (.dcpIzx b) := .inr (.inl rfl)
theorem cpyZp (b : Byte) : Statement (.cpyZp b) := .inr (.inl rfl)
theorem cmpZp (b : Byte) : Statement (.cmpZp b) := .inr (.inl rfl)
theorem decZp (b : Byte) : Statement (.decZp b) := .inr (.inl rfl)
theorem dcpZp (b : Byte) : Statement (.dcpZp b) := .inr (.inl rfl)
theorem iny : Statement (.iny) := .inl rfl
theorem cmpImm (v : Byte) : Statement (.cmpImm v) := .inr (.inl rfl)
theorem dex : Statement (.dex) := .inl rfl
theorem sbxImm (v : Byte) : Statement (.sbxImm v) := .inr (.inl rfl)
theorem cpyAbs (w : Word) : Statement (.cpyAbs w) := .inr (.inr rfl)
theorem cmpAbs (w : Word) : Statement (.cmpAbs w) := .inr (.inr rfl)
theorem decAbs (w : Word) : Statement (.decAbs w) := .inr (.inr rfl)
theorem dcpAbs (w : Word) : Statement (.dcpAbs w) := .inr (.inr rfl)
theorem bne (off : Byte) : Statement (.bne off) := .inr (.inl rfl)
theorem cmpIzy (b : Byte) : Statement (.cmpIzy b) := .inr (.inl rfl)
theorem jamD2 : Statement (.jamD2) := .inl rfl
theorem dcpIzy (b : Byte) : Statement (.dcpIzy b) := .inr (.inl rfl)
theorem nopZpxD4 (b : Byte) : Statement (.nopZpxD4 b) := .inr (.inl rfl)
theorem cmpZpx (b : Byte) : Statement (.cmpZpx b) := .inr (.inl rfl)
theorem decZpx (b : Byte) : Statement (.decZpx b) := .inr (.inl rfl)
theorem dcpZpx (b : Byte) : Statement (.dcpZpx b) := .inr (.inl rfl)
theorem cld : Statement (.cld) := .inl rfl
theorem cmpAby (w : Word) : Statement (.cmpAby w) := .inr (.inr rfl)
theorem nopImpDA : Statement (.nopImpDA) := .inl rfl
theorem dcpAby (w : Word) : Statement (.dcpAby w) := .inr (.inr rfl)
theorem nopAbxDC (w : Word) : Statement (.nopAbxDC w) := .inr (.inr rfl)
theorem cmpAbx (w : Word) : Statement (.cmpAbx w) := .inr (.inr rfl)
theorem decAbx (w : Word) : Statement (.decAbx w) := .inr (.inr rfl)
theorem dcpAbx (w : Word) : Statement (.dcpAbx w) := .inr (.inr rfl)
theorem cpxImm (v : Byte) : Statement (.cpxImm v) := .inr (.inl rfl)
theorem sbcIzx (b : Byte) : Statement (.sbcIzx b) := .inr (.inl rfl)
theorem nopImmE2 (v : Byte) : Statement (.nopImmE2 v) := .inr (.inl rfl)
theorem isbIzx (b : Byte) : Statement (.isbIzx b) := .inr (.inl rfl)
theorem cpxZp (b : Byte) : Statement (.cpxZp b) := .inr (.inl rfl)
theorem sbcZp (b : Byte) : Statement (.sbcZp b) := .inr (.inl rfl)
theorem incZp (b : Byte) : Statement (.incZp b) := .inr (.inl rfl)
theorem isbZp (b : Byte) : Statement (.isbZp b) := .inr (.inl rfl)
theorem inx : Statement (.inx) := .inl rfl
theorem sbcImm (v : Byte) : Statement (.sbcImm v) := .inr (.inl rfl)
theorem nop : Statement (.nop) := .inl rfl
theorem sbcImmEB (v : Byte) : Statement (.sbcImmEB v) := .inr (.inl rfl)
theorem cpxAbs (w : Word) : Statement (.cpxAbs w) := .inr (.inr rfl)
theorem sbcAbs (w : Word) : Statement (.sbcAbs w) := .inr (.inr rfl)
theorem incAbs (w : Word) : Statement (.incAbs w) := .inr (.inr rfl)
theorem isbAbs (w : Word) : Statement (.isbAbs w) := .inr (.inr rfl)
theorem beq (off : Byte) : Statement (.beq off) := .inr (.inl rfl)
theorem sbcIzy (b : Byte) : Statement (.sbcIzy b) := .inr (.inl rfl)
theorem jamF2 : Statement (.jamF2) := .inl rfl
theorem isbIzy (b : Byte) : Statement (.isbIzy b) := .inr (.inl rfl)
theorem nopZpxF4 (b : Byte) : Statement (.nopZpxF4 b) := .inr (.inl rfl)
theorem sbcZpx (b : Byte) : Statement (.sbcZpx b) := .inr (.inl rfl)
theorem incZpx (b : Byte) : Statement (.incZpx b) := .inr (.inl rfl)
theorem isbZpx (b : Byte) : Statement (.isbZpx b) := .inr (.inl rfl)
theorem sed : Statement (.sed) := .inl rfl
theorem sbcAby (w : Word) : Statement (.sbcAby w) := .inr (.inr rfl)
theorem nopImpFA : Statement (.nopImpFA) := .inl rfl
theorem isbAby (w : Word) : Statement (.isbAby w) := .inr (.inr rfl)
theorem nopAbxFC (w : Word) : Statement (.nopAbxFC w) := .inr (.inr rfl)
theorem sbcAbx (w : Word) : Statement (.sbcAbx w) := .inr (.inr rfl)
theorem incAbx (w : Word) : Statement (.incAbx w) := .inr (.inr rfl)
theorem isbAbx (w : Word) : Statement (.isbAbx w) := .inr (.inr rfl)

end Sys2Proof.Laws.EncodedLength
end

