-- ==== Sys2Proof/Tests/Slice0.lean ====
section
/-! SUPPORT. Tests. Expected words come from 30_encoding.md, expected results from 95_test_vectors.md or from the worked
examples of the rules named; the witnesses show that the hypotheses of the statements can be met. -/

namespace Sys2Proof.Tests

open Sys2Proof.Machine

/-! ## Well-formedness: what is refused, and what is not (30_encoding.md R113, 00_scope.md R2, R7). -/

/-- A part without ROR. -/
def noRor : Params := { Params.atReset with hasRor := false }

/-- The 6510 and the 8502 of R2 and R81, and a Commodore 64 (20_memory.md section 8). -/
def p6510 : Params :=
  { Params.atReset with variant := .mos6510, hasIoPort := true, portLines := 6, hasSo := false }
def p8502 : Params := { p6510 with variant := .mos8502, portLines := 7 }
def c64 : Params := { p6510 with platform := .commodore64 }

theorem test_wf_refuses_ror : Instr.wellFormed noRor .rorAcc = false := by decide
theorem test_wf_refuses_rra : Instr.wellFormed noRor (.rraZp 0x10) = false := by decide
theorem test_wf_refuses_arr : Instr.wellFormed noRor (.arrImm 0x10) = false := by decide
theorem test_wf_allows_rol : Instr.wellFormed noRor .rolAcc = true := by decide
theorem test_wf_allows_ror : Instr.wellFormed Params.atReset .rorAcc = true := by decide
theorem test_legal_refuses_port_on_6502 : Params.legal { Params.atReset with hasIoPort := true } = false := by decide
theorem test_legal_refuses_lines_on_6502 : Params.legal { Params.atReset with portLines := 6 } = false := by decide
theorem test_legal_refuses_6502_without_so : Params.legal { Params.atReset with hasSo := false } = false := by decide
theorem test_legal_refuses_seven_lines_on_6510 : Params.legal { p6510 with portLines := 7 } = false := by decide
theorem test_legal_refuses_6510_without_port : Params.legal { p6510 with hasIoPort := false } = false := by decide
theorem test_legal_refuses_6510_without_ror : Params.legal { p6510 with hasRor := false } = false := by decide
theorem test_legal_refuses_so_on_8502 : Params.legal { p8502 with hasSo := true } = false := by decide
theorem test_legal_refuses_six_lines_on_8502 : Params.legal { p8502 with portLines := 6 } = false := by decide
theorem test_legal_refuses_8500_without_ror :
    Params.legal { p6510 with variant := .mos8500, hasRor := false } = false := by decide
theorem test_legal_refuses_nine_lines_on_8500 :
    Params.legal { p6510 with variant := .mos8500, portLines := 9 } = false := by decide
theorem test_legal_refuses_c64_without_port :
    Params.legal { Params.atReset with platform := .commodore64 } = false := by decide
theorem test_legal_members : [Params.atReset, noRor, p6510, p8502, c64].all Params.legal = true := by decide
theorem test_legal_external :
    ([Params.atReset, p6510, p8502].map fun p => { p with platform := .external }).all Params.legal = true := by decide

/-! ## Decoding: every word of the matrix of R104, row by row, operands low byte first (R62, R103). -/

theorem test_decode_row_00 :
    decode [0x00] = .ok (.brk, []) ∧ decode [0x20, 0xCD, 0xAB] = .ok (.jsr 0xABCD, []) ∧
    decode [0x40] = .ok (.rti, []) ∧ decode [0x60] = .ok (.rts, []) ∧
    decode [0x80, 0x9A] = .ok (.nopImm80 0x9A, []) ∧ decode [0xA0, 0x9A] = .ok (.ldyImm 0x9A, []) ∧
    decode [0xC0, 0x9A] = .ok (.cpyImm 0x9A, []) ∧ decode [0xE0, 0x9A] = .ok (.cpxImm 0x9A, []) := by
  exact ⟨rfl, rfl, rfl, rfl, rfl, rfl, rfl, rfl⟩
theorem test_decode_row_01 :
    decode [0x01, 0x9A] = .ok (.oraIzx 0x9A, []) ∧ decode [0x21, 0x9A] = .ok (.andIzx 0x9A, []) ∧
    decode [0x41, 0x9A] = .ok (.eorIzx 0x9A, []) ∧ decode [0x61, 0x9A] = .ok (.adcIzx 0x9A, []) ∧
    decode [0x81, 0x9A] = .ok (.staIzx 0x9A, []) ∧ decode [0xA1, 0x9A] = .ok (.ldaIzx 0x9A, []) ∧
    decode [0xC1, 0x9A] = .ok (.cmpIzx 0x9A, []) ∧ decode [0xE1, 0x9A] = .ok (.sbcIzx 0x9A, []) := by
  exact ⟨rfl, rfl, rfl, rfl, rfl, rfl, rfl, rfl⟩
theorem test_decode_row_02 :
    decode [0x02] = .ok (.jam02, []) ∧ decode [0x22] = .ok (.jam22, []) ∧ decode [0x42] = .ok (.jam42, []) ∧
    decode [0x62] = .ok (.jam62, []) ∧ decode [0x82, 0x9A] = .ok (.nopImm82 0x9A, []) ∧
    decode [0xA2, 0x9A] = .ok (.ldxImm 0x9A, []) ∧ decode [0xC2, 0x9A] = .ok (.nopImmC2 0x9A, []) ∧
    decode [0xE2, 0x9A] = .ok (.nopImmE2 0x9A, []) := by
  exact ⟨rfl, rfl, rfl, rfl, rfl, rfl, rfl, rfl⟩
theorem test_decode_row_03 :
    decode [0x03, 0x9A] = .ok (.sloIzx 0x9A, []) ∧ decode [0x23, 0x9A] = .ok (.rlaIzx 0x9A, []) ∧
    decode [0x43, 0x9A] = .ok (.sreIzx 0x9A, []) ∧ decode [0x63, 0x9A] = .ok (.rraIzx 0x9A, []) ∧
    decode [0x83, 0x9A] = .ok (.saxIzx 0x9A, []) ∧ decode [0xA3, 0x9A] = .ok (.laxIzx 0x9A, []) ∧
    decode [0xC3, 0x9A] = .ok (.dcpIzx 0x9A, []) ∧ decode [0xE3, 0x9A] = .ok (.isbIzx 0x9A, []) := by
  exact ⟨rfl, rfl, rfl, rfl, rfl, rfl, rfl, rfl⟩
theorem test_decode_row_04 :
    decode [0x04, 0x9A] = .ok (.nopZp04 0x9A, []) ∧ decode [0x24, 0x9A] = .ok (.bitZp 0x9A, []) ∧
    decode [0x44, 0x9A] = .ok (.nopZp44 0x9A, []) ∧ decode [0x64, 0x9A] = .ok (.nopZp64 0x9A, []) ∧
    decode [0x84, 0x9A] = .ok (.styZp 0x9A, []) ∧ decode [0xA4, 0x9A] = .ok (.ldyZp 0x9A, []) ∧
    decode [0xC4, 0x9A] = .ok (.cpyZp 0x9A, []) ∧ decode [0xE4, 0x9A] = .ok (.cpxZp 0x9A, []) := by
  exact ⟨rfl, rfl, rfl, rfl, rfl, rfl, rfl, rfl⟩
theorem test_decode_row_05 :
    decode [0x05, 0x9A] = .ok (.oraZp 0x9A, []) ∧ decode [0x25, 0x9A] = .ok (.andZp 0x9A, []) ∧
    decode [0x45, 0x9A] = .ok (.eorZp 0x9A, []) ∧ decode [0x65, 0x9A] = .ok (.adcZp 0x9A, []) ∧
    decode [0x85, 0x9A] = .ok (.staZp 0x9A, []) ∧ decode [0xA5, 0x9A] = .ok (.ldaZp 0x9A, []) ∧
    decode [0xC5, 0x9A] = .ok (.cmpZp 0x9A, []) ∧ decode [0xE5, 0x9A] = .ok (.sbcZp 0x9A, []) := by
  exact ⟨rfl, rfl, rfl, rfl, rfl, rfl, rfl, rfl⟩
theorem test_decode_row_06 :
    decode [0x06, 0x9A] = .ok (.aslZp 0x9A, []) ∧ decode [0x26, 0x9A] = .ok (.rolZp 0x9A, []) ∧
    decode [0x46, 0x9A] = .ok (.lsrZp 0x9A, []) ∧ decode [0x66, 0x9A] = .ok (.rorZp 0x9A, []) ∧
    decode [0x86, 0x9A] = .ok (.stxZp 0x9A, []) ∧ decode [0xA6, 0x9A] = .ok (.ldxZp 0x9A, []) ∧
    decode [0xC6, 0x9A] = .ok (.decZp 0x9A, []) ∧ decode [0xE6, 0x9A] = .ok (.incZp 0x9A, []) := by
  exact ⟨rfl, rfl, rfl, rfl, rfl, rfl, rfl, rfl⟩
theorem test_decode_row_07 :
    decode [0x07, 0x9A] = .ok (.sloZp 0x9A, []) ∧ decode [0x27, 0x9A] = .ok (.rlaZp 0x9A, []) ∧
    decode [0x47, 0x9A] = .ok (.sreZp 0x9A, []) ∧ decode [0x67, 0x9A] = .ok (.rraZp 0x9A, []) ∧
    decode [0x87, 0x9A] = .ok (.saxZp 0x9A, []) ∧ decode [0xA7, 0x9A] = .ok (.laxZp 0x9A, []) ∧
    decode [0xC7, 0x9A] = .ok (.dcpZp 0x9A, []) ∧ decode [0xE7, 0x9A] = .ok (.isbZp 0x9A, []) := by
  exact ⟨rfl, rfl, rfl, rfl, rfl, rfl, rfl, rfl⟩
theorem test_decode_row_08 :
    decode [0x08] = .ok (.php, []) ∧ decode [0x28] = .ok (.plp, []) ∧ decode [0x48] = .ok (.pha, []) ∧
    decode [0x68] = .ok (.pla, []) ∧ decode [0x88] = .ok (.dey, []) ∧ decode [0xA8] = .ok (.tay, []) ∧
    decode [0xC8] = .ok (.iny, []) ∧ decode [0xE8] = .ok (.inx, []) := by
  exact ⟨rfl, rfl, rfl, rfl, rfl, rfl, rfl, rfl⟩
theorem test_decode_row_09 :
    decode [0x09, 0x9A] = .ok (.oraImm 0x9A, []) ∧ decode [0x29, 0x9A] = .ok (.andImm 0x9A, []) ∧
    decode [0x49, 0x9A] = .ok (.eorImm 0x9A, []) ∧ decode [0x69, 0x9A] = .ok (.adcImm 0x9A, []) ∧
    decode [0x89, 0x9A] = .ok (.nopImm89 0x9A, []) ∧ decode [0xA9, 0x9A] = .ok (.ldaImm 0x9A, []) ∧
    decode [0xC9, 0x9A] = .ok (.cmpImm 0x9A, []) ∧ decode [0xE9, 0x9A] = .ok (.sbcImm 0x9A, []) := by
  exact ⟨rfl, rfl, rfl, rfl, rfl, rfl, rfl, rfl⟩
theorem test_decode_row_0A :
    decode [0x0A] = .ok (.aslAcc, []) ∧ decode [0x2A] = .ok (.rolAcc, []) ∧ decode [0x4A] = .ok (.lsrAcc, []) ∧
    decode [0x6A] = .ok (.rorAcc, []) ∧ decode [0x8A] = .ok (.txa, []) ∧ decode [0xAA] = .ok (.tax, []) ∧
    decode [0xCA] = .ok (.dex, []) ∧ decode [0xEA] = .ok (.nop, []) := by
  exact ⟨rfl, rfl, rfl, rfl, rfl, rfl, rfl, rfl⟩
theorem test_decode_row_0B :
    decode [0x0B, 0x9A] = .ok (.ancImm0B 0x9A, []) ∧ decode [0x2B, 0x9A] = .ok (.ancImm2B 0x9A, []) ∧
    decode [0x4B, 0x9A] = .ok (.asrImm 0x9A, []) ∧ decode [0x6B, 0x9A] = .ok (.arrImm 0x9A, []) ∧
    decode [0x8B, 0x9A] = .ok (.aneImm 0x9A, []) ∧ decode [0xAB, 0x9A] = .ok (.lxaImm 0x9A, []) ∧
    decode [0xCB, 0x9A] = .ok (.sbxImm 0x9A, []) ∧ decode [0xEB, 0x9A] = .ok (.sbcImmEB 0x9A, []) := by
  exact ⟨rfl, rfl, rfl, rfl, rfl, rfl, rfl, rfl⟩
theorem test_decode_row_0C :
    decode [0x0C, 0xCD, 0xAB] = .ok (.nopAbs0C 0xABCD, []) ∧ decode [0x2C, 0xCD, 0xAB] = .ok (.bitAbs 0xABCD, []) ∧
    decode [0x4C, 0xCD, 0xAB] = .ok (.jmpAbs 0xABCD, []) ∧ decode [0x6C, 0xCD, 0xAB] = .ok (.jmpInd 0xABCD, []) ∧
    decode [0x8C, 0xCD, 0xAB] = .ok (.styAbs 0xABCD, []) ∧ decode [0xAC, 0xCD, 0xAB] = .ok (.ldyAbs 0xABCD, []) ∧
    decode [0xCC, 0xCD, 0xAB] = .ok (.cpyAbs 0xABCD, []) ∧
    decode [0xEC, 0xCD, 0xAB] = .ok (.cpxAbs 0xABCD, []) := by
  exact ⟨rfl, rfl, rfl, rfl, rfl, rfl, rfl, rfl⟩
theorem test_decode_row_0D :
    decode [0x0D, 0xCD, 0xAB] = .ok (.oraAbs 0xABCD, []) ∧ decode [0x2D, 0xCD, 0xAB] = .ok (.andAbs 0xABCD, []) ∧
    decode [0x4D, 0xCD, 0xAB] = .ok (.eorAbs 0xABCD, []) ∧ decode [0x6D, 0xCD, 0xAB] = .ok (.adcAbs 0xABCD, []) ∧
    decode [0x8D, 0xCD, 0xAB] = .ok (.staAbs 0xABCD, []) ∧ decode [0xAD, 0xCD, 0xAB] = .ok (.ldaAbs 0xABCD, []) ∧
    decode [0xCD, 0xCD, 0xAB] = .ok (.cmpAbs 0xABCD, []) ∧
    decode [0xED, 0xCD, 0xAB] = .ok (.sbcAbs 0xABCD, []) := by
  exact ⟨rfl, rfl, rfl, rfl, rfl, rfl, rfl, rfl⟩
theorem test_decode_row_0E :
    decode [0x0E, 0xCD, 0xAB] = .ok (.aslAbs 0xABCD, []) ∧ decode [0x2E, 0xCD, 0xAB] = .ok (.rolAbs 0xABCD, []) ∧
    decode [0x4E, 0xCD, 0xAB] = .ok (.lsrAbs 0xABCD, []) ∧ decode [0x6E, 0xCD, 0xAB] = .ok (.rorAbs 0xABCD, []) ∧
    decode [0x8E, 0xCD, 0xAB] = .ok (.stxAbs 0xABCD, []) ∧ decode [0xAE, 0xCD, 0xAB] = .ok (.ldxAbs 0xABCD, []) ∧
    decode [0xCE, 0xCD, 0xAB] = .ok (.decAbs 0xABCD, []) ∧
    decode [0xEE, 0xCD, 0xAB] = .ok (.incAbs 0xABCD, []) := by
  exact ⟨rfl, rfl, rfl, rfl, rfl, rfl, rfl, rfl⟩
theorem test_decode_row_0F :
    decode [0x0F, 0xCD, 0xAB] = .ok (.sloAbs 0xABCD, []) ∧ decode [0x2F, 0xCD, 0xAB] = .ok (.rlaAbs 0xABCD, []) ∧
    decode [0x4F, 0xCD, 0xAB] = .ok (.sreAbs 0xABCD, []) ∧ decode [0x6F, 0xCD, 0xAB] = .ok (.rraAbs 0xABCD, []) ∧
    decode [0x8F, 0xCD, 0xAB] = .ok (.saxAbs 0xABCD, []) ∧ decode [0xAF, 0xCD, 0xAB] = .ok (.laxAbs 0xABCD, []) ∧
    decode [0xCF, 0xCD, 0xAB] = .ok (.dcpAbs 0xABCD, []) ∧
    decode [0xEF, 0xCD, 0xAB] = .ok (.isbAbs 0xABCD, []) := by
  exact ⟨rfl, rfl, rfl, rfl, rfl, rfl, rfl, rfl⟩
theorem test_decode_row_10 :
    decode [0x10, 0x9A] = .ok (.bpl 0x9A, []) ∧ decode [0x30, 0x9A] = .ok (.bmi 0x9A, []) ∧
    decode [0x50, 0x9A] = .ok (.bvc 0x9A, []) ∧ decode [0x70, 0x9A] = .ok (.bvs 0x9A, []) ∧
    decode [0x90, 0x9A] = .ok (.bcc 0x9A, []) ∧ decode [0xB0, 0x9A] = .ok (.bcs 0x9A, []) ∧
    decode [0xD0, 0x9A] = .ok (.bne 0x9A, []) ∧ decode [0xF0, 0x9A] = .ok (.beq 0x9A, []) := by
  exact ⟨rfl, rfl, rfl, rfl, rfl, rfl, rfl, rfl⟩
theorem test_decode_row_11 :
    decode [0x11, 0x9A] = .ok (.oraIzy 0x9A, []) ∧ decode [0x31, 0x9A] = .ok (.andIzy 0x9A, []) ∧
    decode [0x51, 0x9A] = .ok (.eorIzy 0x9A, []) ∧ decode [0x71, 0x9A] = .ok (.adcIzy 0x9A, []) ∧
    decode [0x91, 0x9A] = .ok (.staIzy 0x9A, []) ∧ decode [0xB1, 0x9A] = .ok (.ldaIzy 0x9A, []) ∧
    decode [0xD1, 0x9A] = .ok (.cmpIzy 0x9A, []) ∧ decode [0xF1, 0x9A] = .ok (.sbcIzy 0x9A, []) := by
  exact ⟨rfl, rfl, rfl, rfl, rfl, rfl, rfl, rfl⟩
theorem test_decode_row_12 :
    decode [0x12] = .ok (.jam12, []) ∧ decode [0x32] = .ok (.jam32, []) ∧ decode [0x52] = .ok (.jam52, []) ∧
    decode [0x72] = .ok (.jam72, []) ∧ decode [0x92] = .ok (.jam92, []) ∧ decode [0xB2] = .ok (.jamB2, []) ∧
    decode [0xD2] = .ok (.jamD2, []) ∧ decode [0xF2] = .ok (.jamF2, []) := by
  exact ⟨rfl, rfl, rfl, rfl, rfl, rfl, rfl, rfl⟩
theorem test_decode_row_13 :
    decode [0x13, 0x9A] = .ok (.sloIzy 0x9A, []) ∧ decode [0x33, 0x9A] = .ok (.rlaIzy 0x9A, []) ∧
    decode [0x53, 0x9A] = .ok (.sreIzy 0x9A, []) ∧ decode [0x73, 0x9A] = .ok (.rraIzy 0x9A, []) ∧
    decode [0x93, 0x9A] = .ok (.shaIzy 0x9A, []) ∧ decode [0xB3, 0x9A] = .ok (.laxIzy 0x9A, []) ∧
    decode [0xD3, 0x9A] = .ok (.dcpIzy 0x9A, []) ∧ decode [0xF3, 0x9A] = .ok (.isbIzy 0x9A, []) := by
  exact ⟨rfl, rfl, rfl, rfl, rfl, rfl, rfl, rfl⟩
theorem test_decode_row_14 :
    decode [0x14, 0x9A] = .ok (.nopZpx14 0x9A, []) ∧ decode [0x34, 0x9A] = .ok (.nopZpx34 0x9A, []) ∧
    decode [0x54, 0x9A] = .ok (.nopZpx54 0x9A, []) ∧ decode [0x74, 0x9A] = .ok (.nopZpx74 0x9A, []) ∧
    decode [0x94, 0x9A] = .ok (.styZpx 0x9A, []) ∧ decode [0xB4, 0x9A] = .ok (.ldyZpx 0x9A, []) ∧
    decode [0xD4, 0x9A] = .ok (.nopZpxD4 0x9A, []) ∧ decode [0xF4, 0x9A] = .ok (.nopZpxF4 0x9A, []) := by
  exact ⟨rfl, rfl, rfl, rfl, rfl, rfl, rfl, rfl⟩
theorem test_decode_row_15 :
    decode [0x15, 0x9A] = .ok (.oraZpx 0x9A, []) ∧ decode [0x35, 0x9A] = .ok (.andZpx 0x9A, []) ∧
    decode [0x55, 0x9A] = .ok (.eorZpx 0x9A, []) ∧ decode [0x75, 0x9A] = .ok (.adcZpx 0x9A, []) ∧
    decode [0x95, 0x9A] = .ok (.staZpx 0x9A, []) ∧ decode [0xB5, 0x9A] = .ok (.ldaZpx 0x9A, []) ∧
    decode [0xD5, 0x9A] = .ok (.cmpZpx 0x9A, []) ∧ decode [0xF5, 0x9A] = .ok (.sbcZpx 0x9A, []) := by
  exact ⟨rfl, rfl, rfl, rfl, rfl, rfl, rfl, rfl⟩
theorem test_decode_row_16 :
    decode [0x16, 0x9A] = .ok (.aslZpx 0x9A, []) ∧ decode [0x36, 0x9A] = .ok (.rolZpx 0x9A, []) ∧
    decode [0x56, 0x9A] = .ok (.lsrZpx 0x9A, []) ∧ decode [0x76, 0x9A] = .ok (.rorZpx 0x9A, []) ∧
    decode [0x96, 0x9A] = .ok (.stxZpy 0x9A, []) ∧ decode [0xB6, 0x9A] = .ok (.ldxZpy 0x9A, []) ∧
    decode [0xD6, 0x9A] = .ok (.decZpx 0x9A, []) ∧ decode [0xF6, 0x9A] = .ok (.incZpx 0x9A, []) := by
  exact ⟨rfl, rfl, rfl, rfl, rfl, rfl, rfl, rfl⟩
theorem test_decode_row_17 :
    decode [0x17, 0x9A] = .ok (.sloZpx 0x9A, []) ∧ decode [0x37, 0x9A] = .ok (.rlaZpx 0x9A, []) ∧
    decode [0x57, 0x9A] = .ok (.sreZpx 0x9A, []) ∧ decode [0x77, 0x9A] = .ok (.rraZpx 0x9A, []) ∧
    decode [0x97, 0x9A] = .ok (.saxZpy 0x9A, []) ∧ decode [0xB7, 0x9A] = .ok (.laxZpy 0x9A, []) ∧
    decode [0xD7, 0x9A] = .ok (.dcpZpx 0x9A, []) ∧ decode [0xF7, 0x9A] = .ok (.isbZpx 0x9A, []) := by
  exact ⟨rfl, rfl, rfl, rfl, rfl, rfl, rfl, rfl⟩
theorem test_decode_row_18 :
    decode [0x18] = .ok (.clc, []) ∧ decode [0x38] = .ok (.sec, []) ∧ decode [0x58] = .ok (.cli, []) ∧
    decode [0x78] = .ok (.sei, []) ∧ decode [0x98] = .ok (.tya, []) ∧ decode [0xB8] = .ok (.clv, []) ∧
    decode [0xD8] = .ok (.cld, []) ∧ decode [0xF8] = .ok (.sed, []) := by
  exact ⟨rfl, rfl, rfl, rfl, rfl, rfl, rfl, rfl⟩
theorem test_decode_row_19 :
    decode [0x19, 0xCD, 0xAB] = .ok (.oraAby 0xABCD, []) ∧ decode [0x39, 0xCD, 0xAB] = .ok (.andAby 0xABCD, []) ∧
    decode [0x59, 0xCD, 0xAB] = .ok (.eorAby 0xABCD, []) ∧ decode [0x79, 0xCD, 0xAB] = .ok (.adcAby 0xABCD, []) ∧
    decode [0x99, 0xCD, 0xAB] = .ok (.staAby 0xABCD, []) ∧ decode [0xB9, 0xCD, 0xAB] = .ok (.ldaAby 0xABCD, []) ∧
    decode [0xD9, 0xCD, 0xAB] = .ok (.cmpAby 0xABCD, []) ∧
    decode [0xF9, 0xCD, 0xAB] = .ok (.sbcAby 0xABCD, []) := by
  exact ⟨rfl, rfl, rfl, rfl, rfl, rfl, rfl, rfl⟩
theorem test_decode_row_1A :
    decode [0x1A] = .ok (.nopImp1A, []) ∧ decode [0x3A] = .ok (.nopImp3A, []) ∧
    decode [0x5A] = .ok (.nopImp5A, []) ∧ decode [0x7A] = .ok (.nopImp7A, []) ∧ decode [0x9A] = .ok (.txs, []) ∧
    decode [0xBA] = .ok (.tsx, []) ∧ decode [0xDA] = .ok (.nopImpDA, []) ∧ decode [0xFA] = .ok (.nopImpFA, []) := by
  exact ⟨rfl, rfl, rfl, rfl, rfl, rfl, rfl, rfl⟩
theorem test_decode_row_1B :
    decode [0x1B, 0xCD, 0xAB] = .ok (.sloAby 0xABCD, []) ∧ decode [0x3B, 0xCD, 0xAB] = .ok (.rlaAby 0xABCD, []) ∧
    decode [0x5B, 0xCD, 0xAB] = .ok (.sreAby 0xABCD, []) ∧ decode [0x7B, 0xCD, 0xAB] = .ok (.rraAby 0xABCD, []) ∧
    decode [0x9B, 0xCD, 0xAB] = .ok (.shsAby 0xABCD, []) ∧ decode [0xBB, 0xCD, 0xAB] = .ok (.lasAby 0xABCD, []) ∧
    decode [0xDB, 0xCD, 0xAB] = .ok (.dcpAby 0xABCD, []) ∧
    decode [0xFB, 0xCD, 0xAB] = .ok (.isbAby 0xABCD, []) := by
  exact ⟨rfl, rfl, rfl, rfl, rfl, rfl, rfl, rfl⟩
theorem test_decode_row_1C :
    decode [0x1C, 0xCD, 0xAB] = .ok (.nopAbx1C 0xABCD, []) ∧
    decode [0x3C, 0xCD, 0xAB] = .ok (.nopAbx3C 0xABCD, []) ∧
    decode [0x5C, 0xCD, 0xAB] = .ok (.nopAbx5C 0xABCD, []) ∧
    decode [0x7C, 0xCD, 0xAB] = .ok (.nopAbx7C 0xABCD, []) ∧ decode [0x9C, 0xCD, 0xAB] = .ok (.shyAbx 0xABCD, []) ∧
    decode [0xBC, 0xCD, 0xAB] = .ok (.ldyAbx 0xABCD, []) ∧ decode [0xDC, 0xCD, 0xAB] = .ok (.nopAbxDC 0xABCD, []) ∧
    decode [0xFC, 0xCD, 0xAB] = .ok (.nopAbxFC 0xABCD, []) := by
  exact ⟨rfl, rfl, rfl, rfl, rfl, rfl, rfl, rfl⟩
theorem test_decode_row_1D :
    decode [0x1D, 0xCD, 0xAB] = .ok (.oraAbx 0xABCD, []) ∧ decode [0x3D, 0xCD, 0xAB] = .ok (.andAbx 0xABCD, []) ∧
    decode [0x5D, 0xCD, 0xAB] = .ok (.eorAbx 0xABCD, []) ∧ decode [0x7D, 0xCD, 0xAB] = .ok (.adcAbx 0xABCD, []) ∧
    decode [0x9D, 0xCD, 0xAB] = .ok (.staAbx 0xABCD, []) ∧ decode [0xBD, 0xCD, 0xAB] = .ok (.ldaAbx 0xABCD, []) ∧
    decode [0xDD, 0xCD, 0xAB] = .ok (.cmpAbx 0xABCD, []) ∧
    decode [0xFD, 0xCD, 0xAB] = .ok (.sbcAbx 0xABCD, []) := by
  exact ⟨rfl, rfl, rfl, rfl, rfl, rfl, rfl, rfl⟩
theorem test_decode_row_1E :
    decode [0x1E, 0xCD, 0xAB] = .ok (.aslAbx 0xABCD, []) ∧ decode [0x3E, 0xCD, 0xAB] = .ok (.rolAbx 0xABCD, []) ∧
    decode [0x5E, 0xCD, 0xAB] = .ok (.lsrAbx 0xABCD, []) ∧ decode [0x7E, 0xCD, 0xAB] = .ok (.rorAbx 0xABCD, []) ∧
    decode [0x9E, 0xCD, 0xAB] = .ok (.shxAby 0xABCD, []) ∧ decode [0xBE, 0xCD, 0xAB] = .ok (.ldxAby 0xABCD, []) ∧
    decode [0xDE, 0xCD, 0xAB] = .ok (.decAbx 0xABCD, []) ∧
    decode [0xFE, 0xCD, 0xAB] = .ok (.incAbx 0xABCD, []) := by
  exact ⟨rfl, rfl, rfl, rfl, rfl, rfl, rfl, rfl⟩
theorem test_decode_row_1F :
    decode [0x1F, 0xCD, 0xAB] = .ok (.sloAbx 0xABCD, []) ∧ decode [0x3F, 0xCD, 0xAB] = .ok (.rlaAbx 0xABCD, []) ∧
    decode [0x5F, 0xCD, 0xAB] = .ok (.sreAbx 0xABCD, []) ∧ decode [0x7F, 0xCD, 0xAB] = .ok (.rraAbx 0xABCD, []) ∧
    decode [0x9F, 0xCD, 0xAB] = .ok (.shaAby 0xABCD, []) ∧ decode [0xBF, 0xCD, 0xAB] = .ok (.laxAby 0xABCD, []) ∧
    decode [0xDF, 0xCD, 0xAB] = .ok (.dcpAbx 0xABCD, []) ∧
    decode [0xFF, 0xCD, 0xAB] = .ok (.isbAbx 0xABCD, []) := by
  exact ⟨rfl, rfl, rfl, rfl, rfl, rfl, rfl, rfl⟩

theorem test_decode_truncated : decode [0xAD, 0x34] = .error .truncated := by rfl
theorem test_table_word : decodeTableWord 24 0x1234AD = some (.ldaAbs 0x1234) := by decide
theorem test_encode_indirect : encode (.jmpInd 0x01FF) = [0x6C, 0xFF, 0x01] := by decide
theorem test_encode_branch : encode (.bpl 0x91) = [0x10, 0x91] := by decide
theorem test_encode_implied : encode .brk = [0x00] := by decide

/-! ## One step from the default start state of 95_test_vectors.md section 1. -/

/-- A memory with the given bytes. -/
def memOf : List (Nat × Byte) → Memory
  | [] => []
  | (a, v) :: l => (memOf l).write a v

/-- The bytes of an instruction at consecutive addresses. -/
def codeAt (a : Nat) : List Byte → List (Nat × Byte)
  | [] => []
  | b :: l => (a, b) :: codeAt (a + 1) l

/-- The default start state but for pc: S FF, plain RAM that holds the instruction at pc and the bytes listed. -/
def startAt (a : Word) (code : List Byte) (m : List (Nat × Byte)) : State :=
  { State.reset with S := 0xFF, pc := a, ram := memOf (codeAt a.toNat code ++ m) }

/-- The default start state, pc 1000. -/
def start (code : List Byte) (m : List (Nat × Byte)) : State := startAt 0x1000 code m

/-- The flags N, V, D, I, Z, C as the vectors write them. -/
def fl (n v d i z c : Nat) : Flags := { n := n == 1, v := v == 1, d := d == 1, i := i == 1, z := z == 1, c := c == 1 }

/-- The step has a next state, and the state is as expected. -/
def gives (r : Result) (expected : State → Bool) : Bool :=
  match r with
  | .next t => expected t
  | .fault _ => false
  | .refused _ => false

theorem test_lda_v_d2 :
    gives (step { start [0xB5, 0xFF] [(0x0001, 0x55), (0x0101, 0xAA)] with X := 0x02 }) (fun t =>
      t.A == 0x55 && t.pc == 0x1002 && t.P == fl 0 0 0 0 0 0 &&
      t.accesses == [.read 0x1000 0xB5, .read 0x1001 0xFF, .read 0x00FF 0x00, .read 0x0001 0x55]) = true := by decide
theorem test_ldx_v_d3 :
    gives (step { start [0xB6, 0xF0] [(0x000F, 0x00), (0x010F, 0x77)] with Y := 0x1F }) (fun t =>
      t.X == 0x00 && t.pc == 0x1002 && t.P == fl 0 0 0 0 1 0 &&
      t.accesses == [.read 0x1000 0xB6, .read 0x1001 0xF0, .read 0x00F0 0x00, .read 0x000F 0x00]) = true := by decide
theorem test_lda_v_d6 :
    gives (step { start [0xBD, 0x01, 0x20] [(0x2000, 0x99), (0x2100, 0x22)] with X := 0xFF }) (fun t =>
      t.A == 0x22 && t.pc == 0x1003 &&
      t.accesses == [.read 0x1000 0xBD, .read 0x1001 0x01, .read 0x1002 0x20, .read 0x2000 0x99,
        .read 0x2100 0x22]) = true := by decide
theorem test_lda_v_d7 :
    gives (step { start [0xB9, 0xFF, 0xFF] [(0x0000, 0x33), (0xFF00, 0x44)] with Y := 0x01 }) (fun t =>
      t.A == 0x33 && t.pc == 0x1003 &&
      t.accesses == [.read 0x1000 0xB9, .read 0x1001 0xFF, .read 0x1002 0xFF, .read 0xFF00 0x44,
        .read 0x0000 0x33]) = true := by decide
theorem test_sta_v_d12 :
    gives (step { start [0x9D, 0x00, 0x20] [(0x2005, 0xEE)] with A := 0x5A, X := 0x05 }) (fun t =>
      t.ram.read 0x2005 == 0x5A &&
      t.accesses == [.read 0x1000 0x9D, .read 0x1001 0x00, .read 0x1002 0x20, .read 0x2005 0xEE,
        .write 0x2005 0x5A]) = true := by decide
theorem test_sta_v_d13 :
    gives (step { start [0x99, 0xF0, 0x20] [(0x2000, 0xEE)] with A := 0x5A, Y := 0x10 }) (fun t =>
      t.ram.read 0x2000 == 0xEE && t.ram.read 0x2100 == 0x5A &&
      t.accesses == [.read 0x1000 0x99, .read 0x1001 0xF0, .read 0x1002 0x20, .read 0x2000 0xEE,
        .write 0x2100 0x5A]) = true := by decide
theorem test_sta_v_d14 :
    gives (step { start [0x91, 0x40] [(0x0040, 0x80), (0x0041, 0x12)] with A := 0xA5, Y := 0x80 }) (fun t =>
      t.ram.read 0x1300 == 0xA5 &&
      t.accesses == [.read 0x1000 0x91, .read 0x1001 0x40, .read 0x0040 0x80, .read 0x0041 0x12,
        .read 0x1200 0x00, .write 0x1300 0xA5]) = true := by decide
theorem test_inc_v_d17 :
    gives (step { start [0xFE, 0xFF, 0x20] [(0x2100, 0x7F)] with X := 0x01 }) (fun t =>
      t.P == fl 1 0 0 0 0 0 && t.ram.read 0x2100 == 0x80 &&
      t.accesses == [.read 0x1000 0xFE, .read 0x1001 0xFF, .read 0x1002 0x20, .read 0x2000 0x00,
        .read 0x2100 0x7F, .write 0x2100 0x7F, .write 0x2100 0x80]) = true := by decide
theorem test_jmp_v_d18 :
    gives (step (start [0x6C, 0xFF, 0x30] [(0x3000, 0x80), (0x30FF, 0x00), (0x3100, 0x40)])) (fun t =>
      t.pc == 0x8000 &&
      t.accesses == [.read 0x1000 0x6C, .read 0x1001 0xFF, .read 0x1002 0x30, .read 0x30FF 0x00,
        .read 0x3000 0x80]) = true := by decide
theorem test_jmp_v_d19 :
    gives (step (start [0x6C, 0x00, 0x30] [(0x3000, 0x78), (0x3001, 0x56)])) (fun t =>
      t.pc == 0x5678 &&
      t.accesses == [.read 0x1000 0x6C, .read 0x1001 0x00, .read 0x1002 0x30, .read 0x3000 0x78,
        .read 0x3001 0x56]) = true := by decide
theorem test_bne_v_d20 :
    gives (step { start [0xD0, 0x10] [] with P := fl 0 0 0 0 1 0 }) (fun t =>
      t.pc == 0x1002 && t.accesses == [.read 0x1000 0xD0, .read 0x1001 0x10]) = true := by decide
theorem test_bne_v_d21 :
    gives (step { start [0xD0, 0x10] [] with P := fl 0 0 0 0 0 0 }) (fun t =>
      t.pc == 0x1012 && t.accesses == [.read 0x1000 0xD0, .read 0x1001 0x10, .read 0x1002 0x00]) = true := by decide
theorem test_beq_v_d22 :
    gives (step { startAt 0x10F0 [0xF0, 0x7F] [] with P := fl 0 0 0 0 1 0 }) (fun t =>
      t.pc == 0x1171 &&
      t.accesses == [.read 0x10F0 0xF0, .read 0x10F1 0x7F, .read 0x10F2 0x00, .read 0x1071 0x00]) = true := by decide
theorem test_bcc_v_d23 :
    gives (step { start [0x90, 0x80] [] with P := fl 0 0 0 0 0 0 }) (fun t =>
      t.pc == 0x0F82 &&
      t.accesses == [.read 0x1000 0x90, .read 0x1001 0x80, .read 0x1002 0x00, .read 0x1082 0x00]) = true := by decide
theorem test_bcs_v_d24 :
    gives (step { start [0xB0, 0xFE] [] with P := fl 0 0 0 0 0 1 }) (fun t =>
      t.pc == 0x1000 && t.accesses == [.read 0x1000 0xB0, .read 0x1001 0xFE, .read 0x1002 0x00]) = true := by decide
theorem test_bpl_v_d25 :
    gives (step (startAt 0xFFF8 [0x10, 0x10] [])) (fun t =>
      t.pc == 0x000A &&
      t.accesses == [.read 0xFFF8 0x10, .read 0xFFF9 0x10, .read 0xFFFA 0x00, .read 0xFF0A 0x00]) = true := by decide
theorem test_bmi_v_d26 :
    gives (step { start [0x30, 0x05] [] with P := fl 1 0 0 0 0 0 }) (fun t =>
      t.pc == 0x1007 && t.accesses == [.read 0x1000 0x30, .read 0x1001 0x05, .read 0x1002 0x00]) = true := by decide
theorem test_bvs_v_d27 :
    gives (step { startAt 0x1001 [0x70, 0xFB] [] with P := fl 0 1 0 0 0 0 }) (fun t =>
      t.pc == 0x0FFE &&
      t.accesses == [.read 0x1001 0x70, .read 0x1002 0xFB, .read 0x1003 0x00, .read 0x10FE 0x00]) = true := by decide
theorem test_bvc_v_d28 :
    gives (step { start [0x50, 0x02] [] with P := fl 0 1 0 0 0 0 }) (fun t =>
      t.pc == 0x1002 && t.accesses == [.read 0x1000 0x50, .read 0x1001 0x02]) = true := by decide
theorem test_brk_v_d30 :
    gives (step { startAt 0x1234 [0x00, 0xEA] [(0xFFFE, 0x00), (0xFFFF, 0x90)] with P := fl 1 0 1 0 0 1 }) (fun t =>
      t.S == 0xFC && t.pc == 0x9000 && t.P == fl 1 0 1 1 0 1 && t.ram.read 0x01FD == 0xB9 &&
      t.ram.read 0x01FE == 0x36 && t.ram.read 0x01FF == 0x12) = true := by decide
theorem test_brk_v_d31 :
    gives (step { startAt 0x80FF [0x00] [(0xFFFE, 0xCD), (0xFFFF, 0xAB)] with
        S := 0x01, P := fl 0 0 0 0 1 0 }) (fun t =>
      t.S == 0xFE && t.pc == 0xABCD && t.ram.read 0x0100 == 0x01 && t.ram.read 0x0101 == 0x81 &&
      t.ram.read 0x01FF == 0x32) = true := by decide
theorem test_rti_v_d32 :
    gives (step { startAt 0x9000 [0x40] [(0x01FD, 0xFF), (0x01FE, 0x36), (0x01FF, 0x12)] with S := 0xFC }) (fun t =>
      t.S == 0xFF && t.pc == 0x1236 && t.P == fl 1 1 1 1 1 1 &&
      t.accesses == [.read 0x9000 0x40, .read 0x9001 0x00, .read 0x01FC 0x00, .read 0x01FD 0xFF,
        .read 0x01FE 0x36, .read 0x01FF 0x12]) = true := by decide
theorem test_rti_v_d33 :
    gives (step { startAt 0x9000 [0x40] [(0x01FD, 0x00), (0x01FE, 0x36), (0x01FF, 0x12)] with
        S := 0xFC, P := fl 1 1 1 1 1 1 }) (fun t =>
      t.S == 0xFF && t.pc == 0x1236 && t.P == fl 0 0 0 0 0 0 &&
      t.accesses == [.read 0x9000 0x40, .read 0x9001 0x00, .read 0x01FC 0x00, .read 0x01FD 0x00,
        .read 0x01FE 0x36, .read 0x01FF 0x12]) = true := by decide
theorem test_jsr_v_d34 :
    gives (step (startAt 0x10FE [0x20, 0x00, 0x30] [])) (fun t =>
      t.S == 0xFD && t.pc == 0x3000 && t.ram.read 0x01FE == 0x00 && t.ram.read 0x01FF == 0x11) = true := by decide
theorem test_rts_v_d35 :
    gives (step { startAt 0x3000 [0x60] [(0x01FE, 0x00), (0x01FF, 0x11)] with S := 0xFD }) (fun t =>
      t.S == 0xFF && t.pc == 0x1101 &&
      t.accesses == [.read 0x3000 0x60, .read 0x3001 0x00, .read 0x01FD 0x00, .read 0x01FE 0x00,
        .read 0x01FF 0x11, .read 0x1100 0x00]) = true := by decide
theorem test_rts_v_d36 :
    gives (step { startAt 0x3000 [0x60] [(0x01FE, 0xFF), (0x01FF, 0xFF)] with S := 0xFD }) (fun t =>
      t.S == 0xFF && t.pc == 0x0000 &&
      t.accesses == [.read 0x3000 0x60, .read 0x3001 0x00, .read 0x01FD 0x00, .read 0x01FE 0xFF,
        .read 0x01FF 0xFF, .read 0xFFFF 0x00]) = true := by decide
theorem test_pha_v_d37 :
    gives (step { start [0x48] [] with A := 0x77, S := 0x00 }) (fun t =>
      t.S == 0xFF && t.pc == 0x1001 && t.ram.read 0x0100 == 0x77 &&
      t.accesses == [.read 0x1000 0x48, .read 0x1001 0x00, .write 0x0100 0x77]) = true := by decide
theorem test_pla_v_d38 :
    gives (step { start [0x68] [(0x0100, 0x80), (0x01FF, 0x55)] with S := 0xFF }) (fun t =>
      t.A == 0x80 && t.S == 0x00 && t.P == fl 1 0 0 0 0 0 &&
      t.accesses == [.read 0x1000 0x68, .read 0x1001 0x00, .read 0x01FF 0x55, .read 0x0100 0x80]) = true := by decide
theorem test_php_v_d39 :
    gives (step { start [0x08] [] with P := fl 1 1 0 0 1 0 }) (fun t =>
      t.S == 0xFE && t.ram.read 0x01FF == 0xF2 &&
      t.accesses == [.read 0x1000 0x08, .read 0x1001 0x00, .write 0x01FF 0xF2]) = true := by decide
theorem test_plp_v_d40 :
    gives (step { start [0x28] [(0x01FF, 0xCF)] with S := 0xFE }) (fun t =>
      t.S == 0xFF && t.P == fl 1 1 1 1 1 1 &&
      t.accesses == [.read 0x1000 0x28, .read 0x1001 0x00, .read 0x01FE 0x00, .read 0x01FF 0xCF]) = true := by decide
theorem test_plp_v_d41 :
    gives (step { start [0x28] [(0x01FF, 0x30)] with S := 0xFE, P := fl 1 1 1 1 1 1 }) (fun t =>
      t.S == 0xFF && t.P == fl 0 0 0 0 0 0 &&
      t.accesses == [.read 0x1000 0x28, .read 0x1001 0x00, .read 0x01FE 0x00, .read 0x01FF 0x30]) = true := by decide
theorem test_tax_v_d50 :
    gives (step { start [0xAA] [] with A := 0x80 }) (fun t =>
      t.X == 0x80 && t.pc == 0x1001 && t.P == fl 1 0 0 0 0 0 &&
      t.accesses == [.read 0x1000 0xAA, .read 0x1001 0x00]) = true := by decide
theorem test_tay_v_d51 :
    gives (step { start [0xA8] [] with A := 0x00, Y := 0x05, P := fl 1 0 0 0 0 0 }) (fun t =>
      t.Y == 0x00 && t.P == fl 0 0 0 0 1 0 &&
      t.accesses == [.read 0x1000 0xA8, .read 0x1001 0x00]) = true := by decide
theorem test_txa_v_d52 :
    gives (step { start [0x8A] [] with A := 0x80, X := 0x7F, P := fl 1 0 0 0 0 0 }) (fun t =>
      t.A == 0x7F && t.P == fl 0 0 0 0 0 0 &&
      t.accesses == [.read 0x1000 0x8A, .read 0x1001 0x00]) = true := by decide
theorem test_tya_v_d53 :
    gives (step { start [0x98] [] with Y := 0xFF }) (fun t =>
      t.A == 0xFF && t.P == fl 1 0 0 0 0 0 &&
      t.accesses == [.read 0x1000 0x98, .read 0x1001 0x00]) = true := by decide
theorem test_tsx_v_d54 :
    gives (step { start [0xBA] [] with X := 0x09, S := 0x00 }) (fun t =>
      t.X == 0x00 && t.P == fl 0 0 0 0 1 0 &&
      t.accesses == [.read 0x1000 0xBA, .read 0x1001 0x00]) = true := by decide
theorem test_txs_v_d55 :
    gives (step { start [0x9A] [] with X := 0x00, S := 0x55, P := fl 1 0 0 0 0 0 }) (fun t =>
      t.S == 0x00 && t.P == fl 1 0 0 0 0 0 &&
      t.accesses == [.read 0x1000 0x9A, .read 0x1001 0x00]) = true := by decide
theorem test_inx_v_d56 :
    gives (step { start [0xE8] [] with X := 0xFF, P := fl 0 1 0 0 0 1 }) (fun t =>
      t.X == 0x00 && t.P == fl 0 1 0 0 1 1 &&
      t.accesses == [.read 0x1000 0xE8, .read 0x1001 0x00]) = true := by decide
theorem test_iny_v_d57 :
    gives (step { start [0xC8] [] with Y := 0x7F }) (fun t =>
      t.Y == 0x80 && t.P == fl 1 0 0 0 0 0 &&
      t.accesses == [.read 0x1000 0xC8, .read 0x1001 0x00]) = true := by decide
theorem test_dex_v_d58 :
    gives (step { start [0xCA] [] with X := 0x00 }) (fun t =>
      t.X == 0xFF && t.P == fl 1 0 0 0 0 0 &&
      t.accesses == [.read 0x1000 0xCA, .read 0x1001 0x00]) = true := by decide
theorem test_dey_v_d59 :
    gives (step { start [0x88] [] with Y := 0x01 }) (fun t =>
      t.Y == 0x00 && t.P == fl 0 0 0 0 1 0 &&
      t.accesses == [.read 0x1000 0x88, .read 0x1001 0x00]) = true := by decide
theorem test_nop_v_d62 :
    gives (step { start [0xEA] [] with P := fl 1 0 0 0 0 1 }) (fun t =>
      t.pc == 0x1001 && t.P == fl 1 0 0 0 0 1 &&
      t.accesses == [.read 0x1000 0xEA, .read 0x1001 0x00]) = true := by decide
theorem test_ldx_v_d71 :
    gives (step (start [0xA2, 0xFF] [])) (fun t =>
      t.X == 0xFF && t.P == fl 1 0 0 0 0 0 &&
      t.accesses == [.read 0x1000 0xA2, .read 0x1001 0xFF]) = true := by decide
theorem test_ldy_v_d72 :
    gives (step { start [0xA0, 0x7F] [] with P := fl 0 0 0 0 1 0 }) (fun t =>
      t.Y == 0x7F && t.P == fl 0 0 0 0 0 0 &&
      t.accesses == [.read 0x1000 0xA0, .read 0x1001 0x7F]) = true := by decide
theorem test_ora_v_d73 :
    gives (step { start [0x09, 0x0F] [] with A := 0xF0 }) (fun t =>
      t.A == 0xFF && t.P == fl 1 0 0 0 0 0 &&
      t.accesses == [.read 0x1000 0x09, .read 0x1001 0x0F]) = true := by decide
theorem test_and_v_d74 :
    gives (step { start [0x29, 0x0F] [] with A := 0xF0 }) (fun t =>
      t.A == 0x00 && t.P == fl 0 0 0 0 1 0 &&
      t.accesses == [.read 0x1000 0x29, .read 0x1001 0x0F]) = true := by decide
theorem test_eor_v_d75 :
    gives (step { start [0x49, 0xFF] [] with A := 0x0F }) (fun t =>
      t.A == 0xF0 && t.P == fl 1 0 0 0 0 0 &&
      t.accesses == [.read 0x1000 0x49, .read 0x1001 0xFF]) = true := by decide
theorem test_adc_v_d77 :
    gives (step { start [0x69, 0x7F] [] with A := 0x01 }) (fun t =>
      t.A == 0x80 && t.P == fl 1 1 0 0 0 0 &&
      t.accesses == [.read 0x1000 0x69, .read 0x1001 0x7F]) = true := by decide
theorem test_sbc_v_d83 :
    gives (step { start [0xE9, 0x01] [] with A := 0x80, P := fl 0 0 0 0 0 1 }) (fun t =>
      t.A == 0x7F && t.P == fl 0 1 0 0 0 1 &&
      t.accesses == [.read 0x1000 0xE9, .read 0x1001 0x01]) = true := by decide
theorem test_cmp_v_d86 :
    gives (step { start [0xC9, 0x40] [] with A := 0x40, P := fl 0 1 0 0 0 0 }) (fun t =>
      t.A == 0x40 && t.P == fl 0 1 0 0 1 1 &&
      t.accesses == [.read 0x1000 0xC9, .read 0x1001 0x40]) = true := by decide
theorem test_cmp_v_d87 :
    gives (step { start [0xC9, 0x41] [] with A := 0x40, P := fl 0 0 0 0 0 1 }) (fun t =>
      t.A == 0x40 && t.P == fl 1 0 0 0 0 0 &&
      t.accesses == [.read 0x1000 0xC9, .read 0x1001 0x41]) = true := by decide
theorem test_cpx_v_d89 :
    gives (step { start [0xE0, 0xFF] [] with X := 0x00 }) (fun t =>
      t.X == 0x00 && t.P == fl 0 0 0 0 0 0 &&
      t.accesses == [.read 0x1000 0xE0, .read 0x1001 0xFF]) = true := by decide
theorem test_cpy_v_d90 :
    gives (step { start [0xC0, 0x10] [] with Y := 0x20 }) (fun t =>
      t.Y == 0x20 && t.P == fl 0 0 0 0 0 1 &&
      t.accesses == [.read 0x1000 0xC0, .read 0x1001 0x10]) = true := by decide
theorem test_bit_v_d91 :
    gives (step { start [0x2C, 0x00, 0x20] [(0x2000, 0x40)] with A := 0xFF }) (fun t =>
      t.A == 0xFF && t.P == fl 0 1 0 0 0 0 &&
      t.accesses == [.read 0x1000 0x2C, .read 0x1001 0x00, .read 0x1002 0x20, .read 0x2000 0x40]) = true := by decide
theorem test_bit_v_d92 :
    gives (step { start [0x24, 0x10] [(0x0010, 0xFF)] with A := 0x00 }) (fun t =>
      t.A == 0x00 && t.P == fl 1 1 0 0 1 0 &&
      t.accesses == [.read 0x1000 0x24, .read 0x1001 0x10, .read 0x0010 0xFF]) = true := by decide
theorem test_adc_v_d102 :
    gives (step { start [0x69, 0x46] [] with A := 0x58, P := fl 0 0 1 0 0 1 }) (fun t =>
      t.A == 0x05 && t.P == fl 1 1 1 0 0 1 &&
      t.accesses == [.read 0x1000 0x69, .read 0x1001 0x46]) = true := by decide
theorem test_sbc_v_d108 :
    gives (step { start [0xE9, 0x21] [] with A := 0x12, P := fl 0 0 1 0 0 0 }) (fun t =>
      t.A == 0x90 && t.P == fl 1 0 1 0 0 0 &&
      t.accesses == [.read 0x1000 0xE9, .read 0x1001 0x21]) = true := by decide
theorem test_asl_v_d110 :
    gives (step { start [0x0A] [] with A := 0xC0 }) (fun t =>
      t.A == 0x80 && t.P == fl 1 0 0 0 0 1 &&
      t.accesses == [.read 0x1000 0x0A, .read 0x1001 0x00]) = true := by decide
theorem test_asl_v_d111 :
    gives (step (start [0x06, 0x10] [(0x0010, 0x80)])) (fun t =>
      t.P == fl 0 0 0 0 1 1 && t.ram.read 0x0010 == 0x00 &&
      t.accesses == [.read 0x1000 0x06, .read 0x1001 0x10, .read 0x0010 0x80, .write 0x0010 0x80,
        .write 0x0010 0x00]) = true := by decide
theorem test_lsr_v_d112 :
    gives (step { start [0x4A] [] with A := 0x01, P := fl 1 0 0 0 0 0 }) (fun t =>
      t.A == 0x00 && t.P == fl 0 0 0 0 1 1 &&
      t.accesses == [.read 0x1000 0x4A, .read 0x1001 0x00]) = true := by decide
theorem test_lsr_v_d113 :
    gives (step { start [0x56, 0x10] [(0x0015, 0xFE)] with X := 0x05, P := fl 0 0 0 0 0 1 }) (fun t =>
      t.P == fl 0 0 0 0 0 0 && t.ram.read 0x0015 == 0x7F &&
      t.accesses == [.read 0x1000 0x56, .read 0x1001 0x10, .read 0x0010 0x00, .read 0x0015 0xFE,
        .write 0x0015 0xFE, .write 0x0015 0x7F]) = true := by decide
theorem test_rol_v_d114 :
    gives (step { start [0x2A] [] with A := 0x40, P := fl 0 0 0 0 0 1 }) (fun t =>
      t.A == 0x81 && t.P == fl 1 0 0 0 0 0 &&
      t.accesses == [.read 0x1000 0x2A, .read 0x1001 0x00]) = true := by decide
theorem test_rol_v_d115 :
    gives (step { start [0x2E, 0x00, 0x20] [(0x2000, 0x80)] with P := fl 0 0 0 0 0 0 }) (fun t =>
      t.P == fl 0 0 0 0 1 1 && t.ram.read 0x2000 == 0x00 &&
      t.accesses == [.read 0x1000 0x2E, .read 0x1001 0x00, .read 0x1002 0x20, .read 0x2000 0x80,
        .write 0x2000 0x80, .write 0x2000 0x00]) = true := by decide
theorem test_ror_v_d116 :
    gives (step { start [0x6A] [] with A := 0x00, P := fl 0 0 0 0 0 1 }) (fun t =>
      t.A == 0x80 && t.P == fl 1 0 0 0 0 0 &&
      t.accesses == [.read 0x1000 0x6A, .read 0x1001 0x00]) = true := by decide
theorem test_ror_v_d117 :
    gives (step { start [0x7E, 0xFF, 0x20] [(0x2100, 0x03)] with X := 0x01, P := fl 0 0 0 0 0 0 }) (fun t =>
      t.P == fl 0 0 0 0 0 1 && t.ram.read 0x2100 == 0x01 &&
      t.accesses == [.read 0x1000 0x7E, .read 0x1001 0xFF, .read 0x1002 0x20, .read 0x2000 0x00,
        .read 0x2100 0x03, .write 0x2100 0x03, .write 0x2100 0x01]) = true := by decide
theorem test_inc_v_d118 :
    gives (step { start [0xEE, 0x00, 0x20] [(0x2000, 0xFF)] with P := fl 0 1 0 0 0 1 }) (fun t =>
      t.P == fl 0 1 0 0 1 1 && t.ram.read 0x2000 == 0x00 &&
      t.accesses == [.read 0x1000 0xEE, .read 0x1001 0x00, .read 0x1002 0x20, .read 0x2000 0xFF,
        .write 0x2000 0xFF, .write 0x2000 0x00]) = true := by decide
theorem test_dec_v_d119 :
    gives (step (start [0xC6, 0x10] [(0x0010, 0x01)])) (fun t =>
      t.P == fl 0 0 0 0 1 0 && t.ram.read 0x0010 == 0x00 &&
      t.accesses == [.read 0x1000 0xC6, .read 0x1001 0x10, .read 0x0010 0x01, .write 0x0010 0x01,
        .write 0x0010 0x00]) = true := by decide
theorem test_dec_v_d120 :
    gives (step { start [0xD6, 0xFF] [(0x0000, 0x00), (0x00FF, 0x22)] with X := 0x01 }) (fun t =>
      t.P == fl 1 0 0 0 0 0 && t.ram.read 0x0000 == 0xFF &&
      t.accesses == [.read 0x1000 0xD6, .read 0x1001 0xFF, .read 0x00FF 0x22, .read 0x0000 0x00,
        .write 0x0000 0x00, .write 0x0000 0xFF]) = true := by decide
theorem test_stx_v_d122 :
    gives (step { start [0x96, 0xFF] [] with X := 0xAB, Y := 0x01 }) (fun t =>
      t.ram.read 0x0000 == 0xAB && t.ram.read 0x0100 == 0x00 &&
      t.accesses == [.read 0x1000 0x96, .read 0x1001 0xFF, .read 0x00FF 0x00, .write 0x0000 0xAB]) = true := by decide
theorem test_stx_v_d123 :
    gives (step { start [0x8E, 0x00, 0x20] [] with X := 0xCD }) (fun t =>
      t.ram.read 0x2000 == 0xCD &&
      t.accesses == [.read 0x1000 0x8E, .read 0x1001 0x00, .read 0x1002 0x20, .write 0x2000 0xCD]) = true := by decide
theorem test_sty_v_d124 :
    gives (step { start [0x8C, 0xFF, 0xFF] [] with Y := 0x12 }) (fun t =>
      t.ram.read 0xFFFF == 0x12 &&
      t.accesses == [.read 0x1000 0x8C, .read 0x1001 0xFF, .read 0x1002 0xFF, .write 0xFFFF 0x12]) = true := by decide
theorem test_slo_v_d130 :
    gives (step { start [0x07, 0x10] [(0x0010, 0x81)] with A := 0x01 }) (fun t =>
      t.A == 0x03 && t.P == fl 0 0 0 0 0 1 && t.ram.read 0x0010 == 0x02 &&
      t.accesses == [.read 0x1000 0x07, .read 0x1001 0x10, .read 0x0010 0x81, .write 0x0010 0x81,
        .write 0x0010 0x02]) = true := by decide
theorem test_slo_v_d131 :
    gives (step { start [0x1B, 0xFF, 0x20] [(0x2100, 0x40)] with A := 0x00, Y := 0x01 }) (fun t =>
      t.A == 0x80 && t.P == fl 1 0 0 0 0 0 && t.ram.read 0x2100 == 0x80 &&
      t.accesses == [.read 0x1000 0x1B, .read 0x1001 0xFF, .read 0x1002 0x20, .read 0x2000 0x00,
        .read 0x2100 0x40, .write 0x2100 0x40, .write 0x2100 0x80]) = true := by decide
theorem test_rla_v_d132 :
    gives (step { start [0x27, 0x10] [(0x0010, 0x80)] with A := 0xFF, P := fl 0 0 0 0 0 1 }) (fun t =>
      t.A == 0x01 && t.P == fl 0 0 0 0 0 1 && t.ram.read 0x0010 == 0x01 &&
      t.accesses == [.read 0x1000 0x27, .read 0x1001 0x10, .read 0x0010 0x80, .write 0x0010 0x80,
        .write 0x0010 0x01]) = true := by decide
theorem test_rla_v_d133 :
    gives (step { start [0x33, 0x40] [(0x0040, 0x80), (0x0041, 0x12), (0x1300, 0x55)] with
        A := 0x0F, Y := 0x80, P := fl 0 0 0 0 0 0 }) (fun t =>
      t.A == 0x0A && t.P == fl 0 0 0 0 0 0 && t.ram.read 0x1300 == 0xAA &&
      t.accesses == [.read 0x1000 0x33, .read 0x1001 0x40, .read 0x0040 0x80, .read 0x0041 0x12,
        .read 0x1200 0x00, .read 0x1300 0x55, .write 0x1300 0x55, .write 0x1300 0xAA]) = true := by decide
theorem test_sre_v_d134 :
    gives (step { start [0x47, 0x10] [(0x0010, 0x03)] with A := 0x01 }) (fun t =>
      t.A == 0x00 && t.P == fl 0 0 0 0 1 1 && t.ram.read 0x0010 == 0x01 &&
      t.accesses == [.read 0x1000 0x47, .read 0x1001 0x10, .read 0x0010 0x03, .write 0x0010 0x03,
        .write 0x0010 0x01]) = true := by decide
theorem test_sre_v_d135 :
    gives (step { start [0x43, 0x0E] [(0x0010, 0x00), (0x0011, 0x30), (0x3000, 0xFF)] with
        A := 0xFF, X := 0x02 }) (fun t =>
      t.A == 0x80 && t.P == fl 1 0 0 0 0 1 && t.ram.read 0x3000 == 0x7F &&
      t.accesses == [.read 0x1000 0x43, .read 0x1001 0x0E, .read 0x000E 0x00, .read 0x0010 0x00,
        .read 0x0011 0x30, .read 0x3000 0xFF, .write 0x3000 0xFF, .write 0x3000 0x7F]) = true := by decide
theorem test_rra_v_d136 :
    gives (step { start [0x67, 0x10] [(0x0010, 0x03)] with A := 0x10, P := fl 0 0 0 0 0 0 }) (fun t =>
      t.A == 0x12 && t.P == fl 0 0 0 0 0 0 && t.ram.read 0x0010 == 0x01 &&
      t.accesses == [.read 0x1000 0x67, .read 0x1001 0x10, .read 0x0010 0x03, .write 0x0010 0x03,
        .write 0x0010 0x01]) = true := by decide
theorem test_rra_v_d137 :
    gives (step { start [0x67, 0x10] [(0x0010, 0x02)] with A := 0x7F, P := fl 0 0 0 0 0 1 }) (fun t =>
      t.A == 0x00 && t.P == fl 0 0 0 0 1 1 && t.ram.read 0x0010 == 0x81 &&
      t.accesses == [.read 0x1000 0x67, .read 0x1001 0x10, .read 0x0010 0x02, .write 0x0010 0x02,
        .write 0x0010 0x81]) = true := by decide
theorem test_sax_v_d139 :
    gives (step { start [0x87, 0x10] [] with A := 0xF0, X := 0x3C, P := fl 1 0 0 0 1 0 }) (fun t =>
      t.P == fl 1 0 0 0 1 0 && t.ram.read 0x0010 == 0x30 &&
      t.accesses == [.read 0x1000 0x87, .read 0x1001 0x10, .write 0x0010 0x30]) = true := by decide
theorem test_sax_v_d140 :
    gives (step { start [0x97, 0xFF] [] with A := 0xFF, X := 0x55, Y := 0x01 }) (fun t =>
      t.ram.read 0x0000 == 0x55 &&
      t.accesses == [.read 0x1000 0x97, .read 0x1001 0xFF, .read 0x00FF 0x00, .write 0x0000 0x55]) = true := by decide
theorem test_lax_v_d142 :
    gives (step (start [0xA7, 0x10] [(0x0010, 0x80)])) (fun t =>
      t.A == 0x80 && t.X == 0x80 && t.P == fl 1 0 0 0 0 0 &&
      t.accesses == [.read 0x1000 0xA7, .read 0x1001 0x10, .read 0x0010 0x80]) = true := by decide
theorem test_lax_v_d143 :
    gives (step { start [0xBF, 0xFF, 0x20] [(0x2100, 0x00)] with A := 0x05, X := 0x06, Y := 0x01 }) (fun t =>
      t.A == 0x00 && t.X == 0x00 && t.P == fl 0 0 0 0 1 0 &&
      t.accesses == [.read 0x1000 0xBF, .read 0x1001 0xFF, .read 0x1002 0x20, .read 0x2000 0x00,
        .read 0x2100 0x00]) = true := by decide
theorem test_dcp_v_d145 :
    gives (step { start [0xC7, 0x10] [(0x0010, 0x41)] with A := 0x40 }) (fun t =>
      t.A == 0x40 && t.P == fl 0 0 0 0 1 1 && t.ram.read 0x0010 == 0x40 &&
      t.accesses == [.read 0x1000 0xC7, .read 0x1001 0x10, .read 0x0010 0x41, .write 0x0010 0x41,
        .write 0x0010 0x40]) = true := by decide
theorem test_dcp_v_d146 :
    gives (step { start [0xC7, 0x10] [(0x0010, 0x00)] with A := 0x40, P := fl 0 1 0 0 0 0 }) (fun t =>
      t.A == 0x40 && t.P == fl 0 1 0 0 0 0 && t.ram.read 0x0010 == 0xFF &&
      t.accesses == [.read 0x1000 0xC7, .read 0x1001 0x10, .read 0x0010 0x00, .write 0x0010 0x00,
        .write 0x0010 0xFF]) = true := by decide
theorem test_isb_v_d147 :
    gives (step { start [0xE7, 0x10] [(0x0010, 0x0F)] with A := 0x20, P := fl 0 0 0 0 0 1 }) (fun t =>
      t.A == 0x10 && t.P == fl 0 0 0 0 0 1 && t.ram.read 0x0010 == 0x10 &&
      t.accesses == [.read 0x1000 0xE7, .read 0x1001 0x10, .read 0x0010 0x0F, .write 0x0010 0x0F,
        .write 0x0010 0x10]) = true := by decide
theorem test_isb_v_d148 :
    gives (step { start [0xE7, 0x10] [(0x0010, 0xFF)] with A := 0x00, P := fl 0 0 0 0 0 0 }) (fun t =>
      t.A == 0xFF && t.P == fl 1 0 0 0 0 0 && t.ram.read 0x0010 == 0x00 &&
      t.accesses == [.read 0x1000 0xE7, .read 0x1001 0x10, .read 0x0010 0xFF, .write 0x0010 0xFF,
        .write 0x0010 0x00]) = true := by decide
theorem test_anc_v_d150 :
    gives (step { start [0x0B, 0x80] [] with A := 0xFF }) (fun t =>
      t.A == 0x80 && t.P == fl 1 0 0 0 0 1 &&
      t.accesses == [.read 0x1000 0x0B, .read 0x1001 0x80]) = true := by decide
theorem test_anc_v_d151 :
    gives (step { start [0x2B, 0x7F] [] with A := 0xFF, P := fl 0 0 0 0 0 1 }) (fun t =>
      t.A == 0x7F && t.P == fl 0 0 0 0 0 0 &&
      t.accesses == [.read 0x1000 0x2B, .read 0x1001 0x7F]) = true := by decide
theorem test_asr_v_d152 :
    gives (step { start [0x4B, 0x03] [] with A := 0xFF, P := fl 1 0 0 0 0 0 }) (fun t =>
      t.A == 0x01 && t.P == fl 0 0 0 0 0 1 &&
      t.accesses == [.read 0x1000 0x4B, .read 0x1001 0x03]) = true := by decide
theorem test_asr_v_d153 :
    gives (step { start [0x4B, 0xFE] [] with A := 0x01, P := fl 0 0 0 0 0 1 }) (fun t =>
      t.A == 0x00 && t.P == fl 0 0 0 0 1 0 &&
      t.accesses == [.read 0x1000 0x4B, .read 0x1001 0xFE]) = true := by decide
theorem test_arr_v_d161 :
    gives (step { start [0x6B, 0x7F] [] with A := 0xFF, P := fl 0 0 0 0 0 0 }) (fun t =>
      t.A == 0x3F && t.P == fl 0 1 0 0 0 0 &&
      t.accesses == [.read 0x1000 0x6B, .read 0x1001 0x7F]) = true := by decide
theorem test_arr_v_d169 :
    gives (step { start [0x6B, 0xF0] [] with A := 0x6F, P := fl 0 0 1 0 0 0 }) (fun t =>
      t.A == 0x90 && t.P == fl 0 1 1 0 0 1 &&
      t.accesses == [.read 0x1000 0x6B, .read 0x1001 0xF0]) = true := by decide
theorem test_lxa_v_d186 :
    gives (step { start [0xAB, 0x0F] [] with A := 0x3C, X := 0x00 }) (fun t =>
      t.A == 0x0C && t.X == 0x0C && t.P == fl 0 0 0 0 0 0 &&
      t.accesses == [.read 0x1000 0xAB, .read 0x1001 0x0F]) = true := by decide
theorem test_sbx_v_d190 :
    gives (step { start [0xCB, 0x01] [] with A := 0xFF, X := 0x01 }) (fun t =>
      t.A == 0xFF && t.X == 0x00 && t.P == fl 0 0 0 0 1 1 &&
      t.accesses == [.read 0x1000 0xCB, .read 0x1001 0x01]) = true := by decide
theorem test_sbx_v_d191 :
    gives (step { start [0xCB, 0x01] [] with A := 0xF0, X := 0x0F, P := fl 0 0 0 0 0 1 }) (fun t =>
      t.A == 0xF0 && t.X == 0xFF && t.P == fl 1 0 0 0 0 0 &&
      t.accesses == [.read 0x1000 0xCB, .read 0x1001 0x01]) = true := by decide
theorem test_sha_v_d200 :
    gives (step { start [0x9F, 0x00, 0x12] [] with A := 0xFF, X := 0xFF, Y := 0x00 }) (fun t =>
      t.ram.read 0x1200 == 0x13 &&
      t.accesses == [.read 0x1000 0x9F, .read 0x1001 0x00, .read 0x1002 0x12, .read 0x1200 0x00,
        .write 0x1200 0x13]) = true := by decide
theorem test_sha_v_d201 :
    gives (step { start [0x9F, 0xFF, 0x12] [] with A := 0xFF, X := 0x0F, Y := 0x01 }) (fun t =>
      t.ram.read 0x0300 == 0x03 && t.ram.read 0x1300 == 0x00 &&
      t.accesses == [.read 0x1000 0x9F, .read 0x1001 0xFF, .read 0x1002 0x12, .read 0x1200 0x00,
        .write 0x0300 0x03]) = true := by decide
theorem test_shx_v_d204 :
    gives (step { start [0x9E, 0x00, 0xFF] [] with X := 0xFF, Y := 0x05 }) (fun t =>
      t.ram.read 0xFF05 == 0x00 &&
      t.accesses == [.read 0x1000 0x9E, .read 0x1001 0x00, .read 0x1002 0xFF, .read 0xFF05 0x00,
        .write 0xFF05 0x00]) = true := by decide
theorem test_shx_v_d205 :
    gives (step { start [0x9E, 0x80, 0x40] [] with X := 0x01, Y := 0x80 }) (fun t =>
      t.ram.read 0x0100 == 0x01 && t.ram.read 0x4000 == 0x00 && t.ram.read 0x4100 == 0x00 &&
      t.accesses == [.read 0x1000 0x9E, .read 0x1001 0x80, .read 0x1002 0x40, .read 0x4000 0x00,
        .write 0x0100 0x01]) = true := by decide
theorem test_shy_v_d206 :
    gives (step { start [0x9C, 0x00, 0x40] [] with X := 0x02, Y := 0xFF }) (fun t =>
      t.ram.read 0x4002 == 0x41 &&
      t.accesses == [.read 0x1000 0x9C, .read 0x1001 0x00, .read 0x1002 0x40, .read 0x4002 0x00,
        .write 0x4002 0x41]) = true := by decide
theorem test_shy_v_d207 :
    gives (step { start [0x9C, 0xFF, 0x1E] [] with X := 0x01, Y := 0x35 }) (fun t =>
      t.ram.read 0x1500 == 0x15 && t.ram.read 0x1E00 == 0x00 && t.ram.read 0x1F00 == 0x00 &&
      t.accesses == [.read 0x1000 0x9C, .read 0x1001 0xFF, .read 0x1002 0x1E, .read 0x1E00 0x00,
        .write 0x1500 0x15]) = true := by decide
theorem test_shs_v_d208 :
    gives (step { start [0x9B, 0x00, 0x20] [] with A := 0xF3, X := 0x3F, Y := 0x00 }) (fun t =>
      t.S == 0x33 && t.ram.read 0x2000 == 0x21 &&
      t.accesses == [.read 0x1000 0x9B, .read 0x1001 0x00, .read 0x1002 0x20, .read 0x2000 0x00,
        .write 0x2000 0x21]) = true := by decide
theorem test_shs_v_d209 :
    gives (step { start [0x9B, 0xF0, 0x7E] [] with A := 0x33, X := 0xFF, Y := 0x10 }) (fun t =>
      t.S == 0x33 && t.ram.read 0x3300 == 0x33 && t.ram.read 0x7F00 == 0x00 &&
      t.accesses == [.read 0x1000 0x9B, .read 0x1001 0xF0, .read 0x1002 0x7E, .read 0x7E00 0x00,
        .write 0x3300 0x33]) = true := by decide
theorem test_las_v_d210 :
    gives (step { start [0xBB, 0x00, 0x12] [(0x1234, 0x3C)] with Y := 0x34, S := 0xF0 }) (fun t =>
      t.A == 0x30 && t.X == 0x30 && t.S == 0x30 && t.P == fl 0 0 0 0 0 0) = true := by decide
theorem test_las_v_d211 :
    gives (step { start [0xBB, 0xFF, 0x12] [(0x1300, 0x0F)] with Y := 0x01, S := 0xF0 }) (fun t =>
      t.A == 0x00 && t.X == 0x00 && t.S == 0x00 && t.P == fl 0 0 0 0 1 0) = true := by decide
theorem test_nop_v_d220 :
    gives (step { start [0x1A] [] with P := fl 1 0 0 0 0 0 }) (fun t =>
      t.pc == 0x1001 && t.P == fl 1 0 0 0 0 0 &&
      t.accesses == [.read 0x1000 0x1A, .read 0x1001 0x00]) = true := by decide
theorem test_jam_v_d229 :
    gives (step (start [0x02, 0xA9, 0x01] [])) (fun t =>
      t.A == 0x00 && t.pc == 0x1001 && t.jammed) = true := by decide

/-! The flag instructions (V-D60, V-D61, one at a time). -/

theorem test_sec : gives (step (start [0x38] [])) (fun t => t.P == fl 0 0 0 0 0 1) = true := by decide
theorem test_sed : gives (step (start [0xF8] [])) (fun t => t.P == fl 0 0 1 0 0 0) = true := by decide
theorem test_sei : gives (step (start [0x78] [])) (fun t => t.P == fl 0 0 0 1 0 0) = true := by decide
theorem test_clc :
    gives (step { start [0x18] [] with P := fl 1 1 1 1 1 1 }) (fun t => t.P == fl 1 1 1 1 1 0) = true := by
  decide
theorem test_cld :
    gives (step { start [0xD8] [] with P := fl 1 1 1 1 1 1 }) (fun t => t.P == fl 1 1 0 1 1 1) = true := by
  decide
theorem test_cli :
    gives (step { start [0x58] [] with P := fl 1 1 1 1 1 1 }) (fun t => t.P == fl 1 1 1 0 1 1) = true := by
  decide
theorem test_clv :
    gives (step { start [0xB8] [] with P := fl 1 1 1 1 1 1 }) (fun t => t.P == fl 1 0 1 1 1 1) = true := by
  decide

/-! ANE and LXA for each of the four constants (V-D180 to V-D183, V-D187, V-D188). -/

theorem test_ane_k11 : aneValue 0x11 0xFF 0xFF 0xFF = 0xFF := by decide
theorem test_ane_k10 : aneValue 0x10 0xFF 0xFF 0xFF = 0xFE := by decide
theorem test_ane_k01 : aneValue 0x01 0xFF 0xFF 0xFF = 0xEF := by decide
theorem test_ane_k00 : aneValue 0x00 0xFF 0xFF 0xFF = 0xEE := by decide
theorem test_ane_v_d184 : ([0x11, 0x10, 0x01, 0x00].all fun k => aneValue k 0xFF 0xFF 0x00 == 0x00) = true := by decide
theorem test_lxa_lehti_k11 : aneValue 0x11 0x3C 0x00 0x0F = 0x00 := by decide
theorem test_lxa_lehti_k00 : aneValue 0x00 0x11 0xFF 0xFF = 0xEE := by decide

/-! Interrupts (V-D240 to V-D245). -/

theorem test_irq_v_d240 :
    gives (step { startAt 0x1234 [0xEA] [(0xFFFE, 0x00), (0xFFFF, 0x90)] with P := fl 1 0 0 0 0 1, irqLine := true })
      (fun t => t.pc == 0x9000 && t.S == 0xFC && t.P == fl 1 0 0 1 0 1 && t.accesses == [.read 0x1234 0xEA,
        .read 0x1234 0xEA, .write 0x01FF 0x12, .write 0x01FE 0x34, .write 0x01FD 0xA1, .read 0xFFFE 0x00,
        .read 0xFFFF 0x90]) = true := by decide
theorem test_irq_v_d243 :
    gives (step { startAt 0xC000 [] [(0xFFFE, 0x00), (0xFFFF, 0x90)] with S := 0, P := fl 0 0 1 0 0 0, irqLine := true })
      (fun t => t.S == 0xFD && t.ram.read 0x0100 == 0xC0 && t.ram.read 0x01FF == 0x00 && t.ram.read 0x01FE == 0x28) =
      true := by decide
theorem test_nmi_v_d241 :
    gives (step { startAt 0x1234 [0xEA] [(0xFFFA, 0x0C), (0xFFFB, 0xDD)] with P := fl 0 0 0 0 1 0, nmiPending := true })
      (fun t => t.pc == 0xDD0C && t.P == fl 0 0 0 0 1 0 && !t.nmiPending && t.ram.read 0x01FD == 0x22) = true := by decide
theorem test_nmi_v_d242 :
    gives (step { startAt 0x1234 [0xEA] [(0xFFFA, 0x0C), (0xFFFB, 0xDD)] with
      P := fl 0 0 0 0 1 0, nmiPending := true, params := { Params.atReset with nmiSetsI := true } })
      (fun t => t.pc == 0xDD0C && t.P == fl 0 0 0 1 1 0 && t.ram.read 0x01FD == 0x22) = true := by decide

/-- An environment that does nothing but let a hardware interrupt overtake a BRK. -/
def overtaking (h : Hijack) : Input :=
  { nmi := false, irq := false, reset := false, so := false, portIn := 0xFF, exrom := true, game := true, defer := false,
    hijack := h }

theorem test_brk_v_d244 :
    gives (step { startAt 0x2000 [0x00] [(0xFFFA, 0x00), (0xFFFB, 0x80), (0xFFFE, 0x00), (0xFFFF, 0x90)] with
      inputs := [overtaking .nmi] })
      (fun t => t.pc == 0x8000 && t.P == fl 0 0 0 1 0 0 && t.ram.read 0x01FD == 0x30) = true := by decide
theorem test_brk_v_d245 :
    gives (step { startAt 0x2000 [0x00] [(0xFFFA, 0x00), (0xFFFB, 0x80), (0xFFFE, 0x00), (0xFFFF, 0x90)] with
      inputs := [overtaking .irq] })
      (fun t => t.pc == 0x9000 && t.P == fl 0 0 0 1 0 0 && t.ram.read 0x01FD == 0x30) = true := by decide

/-- An IRQ with I set is not taken (R316); the instruction runs. -/
theorem test_irq_masked :
    gives (step { start [0xE8] [] with P := fl 0 0 0 1 0 0, irqLine := true }) (fun t => t.X == 0x01) = true := by decide
/-- -SO sets V at the boundary (R329). -/
theorem test_so_sets_v :
    gives (step { start [0xEA] [] with inputs := [{ overtaking .none with so := true }] }) (fun t => t.P == fl 0 1 0 0 0 0) =
      true := by decide
/-- The first instruction of a routine runs before the next recognition (R320). -/
theorem test_vectored :
    gives (step { start [0xE8] [] with vectored := true, nmiPending := true }) (fun t => t.X == 0x01 && t.nmiPending) =
      true := by decide

/-! The reset sequence (V-D250): whatever the free values, pc comes from FFFC and the other registers are kept. -/

theorem test_reset_v_d250 :
    (resetSequence { startAt 0x4321 [] [(0xFFFC, 0x00), (0xFFFD, 0x80)] with A := 0x12, jammed := true }).pc = 0x8000 ∧
    (resetSequence { startAt 0x4321 [] [(0xFFFC, 0x00), (0xFFFD, 0x80)] with A := 0x12, jammed := true }).A = 0x12 := by
  simp only [resetSequence, readEach_eq, jumpThrough_afterReads]
  refine ⟨?_, rfl⟩
  rw [peekAfter_flat _ _ _ rfl rfl, peekAfter_flat _ _ _ rfl rfl]
  rfl

/-! The port (V-D260 to V-D266) and the Commodore 64 (20_memory.md R87 to R90). -/

/-- A 6510 on plain RAM. -/
def port (code : List Byte) (ddr latch : Byte) : State :=
  { start code [] with params := p6510, ddr := ddr, prLatch := latch }

theorem test_port_v_d260 :
    gives (step { port [0x85, 0x00] 0x00 0x00 with A := 0x2F }) (fun t => t.ddr == 0x2F) = true := by
  decide
theorem test_port_v_d261 :
    gives (step { port [0x85, 0x01] 0x2F 0x00 with A := 0x35 }) (fun t => t.prLatch == 0x35) = true := by
  decide
theorem test_port_v_d262 : lineLevels { port [] 0x2F 0x35 with portIn := 0x10 } = 0x35 := by decide
theorem test_port_v_d263 : lineLevels { port [] 0x00 0x00 with portIn := 0x17 } = 0x17 := by decide
theorem test_port_six_lines : portMask p6510 = 0x3F := by decide
theorem test_port_seven_lines : portMask p8502 = 0x7F := by decide
theorem test_port_v_d266 :
    gives (step { start [0x85, 0x00] [] with A := 0x2F }) (fun t => t.ram.read 0x0000 == 0x2F) = true := by decide

/-- A Commodore 64 whose port drives the three memory lines as the latch says, at pc C000. -/
def machine (code : List Byte) (latch : Byte) : State :=
  { startAt 0xC000 code [(0xE000, 0x11), (0xA000, 0x22)] with
    params := c64, ddr := 0x2F, prLatch := latch,
    roms := { kernal := [(0xE000, 0xAA)], basic := [(0xA000, 0xBB)], character := [(0xD000, 0xCC)],
              romL := [(0x8000, 0xDD)], romH := [(0xA000, 0xEE), (0xE000, 0xEF)] } }

theorem test_c64_kernal : gives (step (machine [0xAD, 0x00, 0xE0] 0x37)) (fun t => t.A == 0xAA) = true := by decide
theorem test_c64_ram : gives (step (machine [0xAD, 0x00, 0xE0] 0x34)) (fun t => t.A == 0x11) = true := by decide
theorem test_c64_basic : gives (step (machine [0xAD, 0x00, 0xA0] 0x37)) (fun t => t.A == 0xBB) = true := by decide
theorem test_c64_character : gives (step (machine [0xAD, 0x00, 0xD0] 0x33)) (fun t => t.A == 0xCC) = true := by decide
theorem test_c64_cartridge :
    gives (step { machine [0xAD, 0x00, 0x80] 0x37 with exrom := false }) (fun t => t.A == 0xDD) = true := by decide
theorem test_c64_write_goes_through :
    gives (step { machine [0x8D, 0x00, 0xE0] 0x37 with A := 0x5A })
      (fun t => t.ram.read 0xE000 == 0x5A && t.roms.kernal.read 0xE000 == 0xAA) = true := by decide
theorem test_c64_lines_select :
    let s := memWrite 0x0001 0x35 (machine [] 0x37)
    currentBank s = .c101x ∧ currentRegion s 0xD000 = .io ∧ currentRegion s 0xE000 = .ram := by decide
theorem test_c64_color_ram :
    gives (step { machine [0x8D, 0x00, 0xD8] 0x37 with A := 0x5A })
      (fun t => t.colorRam.read 0xD800 == 0x0A && t.ram.read 0xD800 == 0x00) = true := by decide

/-! A jam begins with the two reads of every instruction (R130, R302); so does a rare one (R301). -/

theorem test_jam_two_reads :
    gives (step (start [0x02, 0xA9] [])) (fun t => t.accesses.take 2 == [.read 0x1000 0x02, .read 0x1001 0xA9]) = true := by
  decide

/-! The interface: an instruction placed after reset is the first to run (log 5). -/

theorem test_with_fetch_word :
    gives (step (State.reset.withFetchWord 24 0x1234AD)) (fun t => t.pc == 0x0003 && t.accesses.length == 4) = true := by
  decide
theorem test_core_reset : Sys2Proof.core.reset = State.reset := by rfl

/-! ## Witnesses: states that meet the hypotheses of the statements, one for each clause. -/

/-- Two boundary cases of one exec answering a next state in which the processor is not jammed. -/
theorem witness_exec_answers_next :
    ∃ t, exec (.staAbx 0x20FF) (start [] []) = .next t ∧ t.jammed = false := ⟨_, rfl, rfl⟩

theorem witness_DecodingIsTotalAndExact : decode [0xA9, 0x42, 0x00] = .ok (.ldaImm 0x42, [0x00]) := by rfl

theorem witness_StepRunsTheDecodedInstruction_exec :
    let s := start [0xA9, 0x42] []
    (boundary s).resetLine = false ∧ (boundary s).jammed = false ∧ takesNmi (boundary s) = false ∧
    takesIrq (boundary s) = false ∧ decode (fetchBytes (boundary s)) = .ok (.ldaImm 0x42, [0x00]) ∧ s.inputs = [] :=
  ⟨rfl, rfl, rfl, rfl, rfl, rfl⟩
theorem witness_StepRunsTheDecodedInstruction_input :
    { start [] [] with inputs := [overtaking .nmi] }.inputs = overtaking .nmi :: [] := by rfl

theorem witness_FetchedBytesArePlacedBytes :
    let s := startAt 0xFFFE [] [(0xFFFE, 0x20), (0xFFFF, 0x34), (0x0000, 0x12)]
    s.params.platform = .flatRam ∧ s.inputs = [] ∧ s.resetLine = false ∧ s.jammed = false ∧ s.nmiPending = false ∧
    s.irqLine = false ∧ ∀ n, n < (encode (.jsr 0x1234)).length →
      (encode (.jsr 0x1234))[n]? = some (s.ram.read (s.pc + BitVec.ofNat 16 n).toNat) ∧
      ¬(s.params.hasIoPort = true ∧ (s.pc + BitVec.ofNat 16 n = 0x0000 ∨ s.pc + BitVec.ofNat 16 n = 0x0001)) := by
  decide
theorem witness_FetchedBytesArePlacedBytes_port :
    let s := { startAt 0x0002 [0xA9, 0x42] [] with params := p6510, ddr := 0x2F, prLatch := 0x37 }
    s.params.hasIoPort = true ∧ s.params.platform = .flatRam ∧ ∀ n, n < (encode (.ldaImm 0x42)).length →
      (encode (.ldaImm 0x42))[n]? = some (s.ram.read (s.pc + BitVec.ofNat 16 n).toNat) ∧
      ¬(s.params.hasIoPort = true ∧ (s.pc + BitVec.ofNat 16 n = 0x0000 ∨ s.pc + BitVec.ofNat 16 n = 0x0001)) := by
  decide

theorem witness_BoundaryPriority_reset :
    (boundary { start [] [] with resetLine := true, jammed := true, nmiPending := true }).resetLine = true := by decide
theorem witness_BoundaryPriority_jam :
    let s := { start [] [] with jammed := true, nmiPending := true, irqLine := true }
    (boundary s).resetLine = false ∧ (boundary s).jammed = true := by decide
theorem witness_BoundaryPriority_nmi :
    let s := { start [] [] with nmiPending := true, irqLine := true }
    (boundary s).resetLine = false ∧ (boundary s).jammed = false ∧ (boundary s).defer = false ∧ s.vectored = false ∧
    (boundary s).nmiPending = true := by decide
theorem witness_BoundaryPriority_irq :
    let s := { start [] [] with irqLine := true }
    (boundary s).resetLine = false ∧ (boundary s).jammed = false ∧ (boundary s).defer = false ∧ s.vectored = false ∧
    (boundary s).nmiPending = false ∧ (boundary s).irqLine = true ∧ s.P.i = false := by decide
theorem witness_BoundaryPriority_masked :
    let s := { start [] [] with irqLine := true, P := fl 0 0 0 1 0 0 }
    (boundary s).resetLine = false ∧ (boundary s).jammed = false ∧ (boundary s).nmiPending = false ∧ s.P.i = true := by
  decide
theorem witness_BoundaryPriority_quiet :
    let s := start [] []
    (boundary s).resetLine = false ∧ (boundary s).jammed = false ∧ (boundary s).nmiPending = false ∧
    (boundary s).irqLine = false := by decide

theorem witness_StepNeverFaults_ror : (start [0x6A] []).params.hasRor = true := by decide
theorem witness_StepNeverFaults_refused : step { start [0x6A] [] with params := noRor } = .refused .rorAbsent := by rfl

theorem witness_EveryStepKeepsTheInvariant :
    State.Inv (start [0x8D, 0x00, 0x20] []) ∧ ∃ t, step (start [0x8D, 0x00, 0x20] []) = .next t :=
  ⟨by unfold State.Inv; decide, _, rfl⟩
theorem witness_StepKeepsParametersAndRoms : ∃ t, step (machine [0x8D, 0x00, 0xE0] 0x37) = .next t := ⟨_, rfl⟩

theorem witness_CyclesFollowTheTable_no_crossing :
    ∃ t, exec (.ldaAbx 0x2000) { start [] [] with X := 0xFF } = .next t ∧ t.jammed = false := ⟨_, rfl, rfl⟩
theorem witness_CyclesFollowTheTable_crossing :
    ∃ t, exec (.ldaAbx 0x2001) { start [] [] with X := 0xFF } = .next t ∧ t.jammed = false := ⟨_, rfl, rfl⟩
theorem witness_WriteCyclesAreThoseListed : ∃ t, exec .brk (start [] []) = .next t ∧ t.jammed = false := ⟨_, rfl, rfl⟩
theorem witness_PcMovesPastTheInstruction :
    ∃ t, exec (.incAbs 0x2000) (startAt 0xFFFE [] []) = .next t ∧ t.jammed = false := ⟨_, rfl, rfl⟩

theorem witness_InstructionFrame_memory :
    (∃ t, exec (.staZp 0x10) (start [] []) = .next t) ∧ 0x0011 ∉ storeAddresses (.staZp 0x10) (start [] []) ∧
    0x0000 ∉ storeAddresses (.staZp 0x10) (start [] []) ∧ 0x0001 ∉ storeAddresses (.staZp 0x10) (start [] []) :=
  ⟨⟨_, rfl⟩, by decide, by decide, by decide⟩
theorem witness_InstructionFrame_no_port : (start [] []).params.hasIoPort = false := by decide
theorem witness_InstructionFrame_not_brk : (Instr.php ≠ .brk) ∧ ∃ t, exec .php (start [] []) = .next t :=
  ⟨by decide, _, rfl⟩

theorem witness_OnlyTheseWrite_D :
    gives (exec .sed (start [] [])) (fun t => t.P.d != (start [] []).P.d) = true := by decide
theorem witness_OnlyTheseWrite_I :
    gives (exec .brk (start [] [])) (fun t => t.P.i != (start [] []).P.i) = true := by decide
theorem witness_OnlyTheseWrite_V :
    gives (exec (.adcImm 0x7F) { start [] [] with A := 0x01 }) (fun t => t.P.v != (start [] []).P.v) = true := by decide
theorem witness_OnlyTheseWrite_S :
    gives (exec .rts (start [] [])) (fun t => t.S != (start [] []).S) = true := by decide

theorem witness_IndexedReadSequence :
    ((lo8 0x2000).toNat + (0xFF : Byte).toNat ≤ 255) ∧ (255 < (lo8 0x2001).toNat + (0xFF : Byte).toNat) := by decide
theorem witness_IndirectModeSequences_no_crossing :
    let s := { start [] [(0x40, 0x01), (0x41, 0x20)] with Y := 0xFE }
    (lo8 (wordOf (peekAfter [s.pc, s.pc + 1, wordOf 0x00 0x40] (wordOf 0x00 (0x40 + 1)) s)
      (peekAfter [s.pc, s.pc + 1] (wordOf 0x00 0x40) s))).toNat + s.Y.toNat ≤ 255 := by decide
theorem witness_IndirectModeSequences_crossing :
    let s := { start [] [(0x40, 0x01), (0x41, 0x20)] with Y := 0xFF }
    255 < (lo8 (wordOf (peekAfter [s.pc, s.pc + 1, wordOf 0x00 0x40] (wordOf 0x00 (0x40 + 1)) s)
      (peekAfter [s.pc, s.pc + 1] (wordOf 0x00 0x40) s))).toNat + s.Y.toNat := by decide

theorem witness_RotateRightOnRorParts : (start [] []).params.hasRor = true := by decide
theorem witness_CombinedRotateAddAndIncrementSubtract :
    { start [] [] with P := fl 0 0 1 0 0 1 }.params.hasRor = true := by
  decide
theorem witness_RorFamilyStopsWithoutRor_stops :
    { start [] [] with params := noRor }.params.hasRor = false ∧ (Instr.rraAbx 0x20FF).usesRor = true := by decide
theorem witness_RorFamilyStopsWithoutRor_completes :
    { start [] [] with params := noRor }.params.hasRor = false ∧ Instr.rolAcc.usesRor = false := by decide
theorem witness_ArrInBothModes_binary : (start [] []).params.hasRor = true ∧ (start [] []).P.d = false := by decide
theorem witness_ArrInBothModes_decimal :
    let s := { start [] [] with P := fl 0 0 1 0 0 0 }
    s.params.hasRor = true ∧ s.P.d = true := by decide

theorem witness_AWriteReachesOneByte_no_port :
    let s := start [] []
    ¬(s.params.hasIoPort = true ∧ ((0x0000 : Word) = 0x0000 ∨ (0x0000 : Word) = 0x0001)) ∧
    s.params.platform = .flatRam ∧ (0xFFFF : Word) ≠ 0x0000 := by decide
theorem witness_AWriteReachesOneByte_port :
    let s := port [] 0x2F 0x37
    s.params.hasIoPort = true ∧ ¬(s.params.hasIoPort = true ∧ ((0x0002 : Word) = 0x0000 ∨ (0x0002 : Word) = 0x0001)) ∧
    s.params.platform = .flatRam ∧
    ¬(s.params.hasIoPort = true ∧ ((0xFFFF : Word) = 0x0000 ∨ (0xFFFF : Word) = 0x0001)) := by decide
theorem witness_AWriteReachesOneByte_c64 :
    let s := machine [] 0x37
    ¬(s.params.hasIoPort = true ∧ ((0xCFFF : Word) = 0x0000 ∨ (0xCFFF : Word) = 0x0001)) ∧
    s.params.platform = .commodore64 ∧ currentRegion s 0xCFFF = .ram := by decide

theorem witness_BranchSequences_not_taken : (!{ start [] [] with P := fl 1 0 0 0 0 0 }.P.n) = false := by decide
theorem witness_BranchSequences_same_page :
    (!(start [] []).P.n) = true ∧ hi8 ((start [] []).pc + 2 + sext16 0x7F) = hi8 ((start [] []).pc + 2) := by decide
theorem witness_BranchSequences_other_page :
    (!(start [] []).P.n) = true ∧ hi8 ((start [] []).pc + 2 + sext16 0x80) ≠ hi8 ((start [] []).pc + 2) := by decide

theorem witness_JsrPushesAndJumps :
    let s := start [0x20, 0x00, 0x30] []
    s.params.platform = .flatRam ∧ s.params.hasIoPort = false ∧ s.ram.read (s.pc + 2).toNat = hi8 0x3000 ∧
    s.pc + 2 ≠ wordOf 0x01 s.S ∧ s.pc + 2 ≠ wordOf 0x01 (s.S - 1) ∧ ∃ t, exec (.jsr 0x3000) s = .next t :=
  ⟨rfl, rfl, rfl, by decide, by decide, _, rfl⟩

theorem witness_BrkTakesItsInterrupt_own : (start [] []).hijack ≠ .nmi := by decide
theorem witness_BrkTakesItsInterrupt_overtaken : { start [] [] with hijack := .nmi }.hijack = .nmi := by decide
theorem witness_HandlerFindsTheFrame : { start [] [] with S := 0x01 }.params.platform = .flatRam := by decide
theorem witness_ReturnUndoesEntry : { start [] [] with S := 0x00, P := fl 1 1 1 1 1 1 }.params.platform = .flatRam := by
  decide

theorem witness_AneAndLxaWithADrawnConstant_alternate : (start [] []).params.lxaVariant = .alternate := by decide
theorem witness_AneAndLxaWithADrawnConstant_lehti :
    { start [] [] with params := { Params.atReset with lxaVariant := .lehti } }.params.lxaVariant = .lehti := by decide

theorem witness_OnlyResetLeavesTheJam_stays :
    let s := { start [] [] with jammed := true, irqLine := true, nmiPending := true }
    s.jammed = true ∧ (boundary s).resetLine = false := by decide
theorem witness_OnlyResetLeavesTheJam_leaves :
    let s := { start [] [] with jammed := true, inputs := [{ overtaking .none with reset := true }] }
    s.jammed = true ∧ (boundary s).resetLine = true := by decide

theorem witness_PortReadsAndWrites_six :
    let s := port [] 0x2F 0x37
    s.params.hasIoPort = true ∧ 5 < s.params.portLines ∧ s.params.portLines ≤ 8 ∧ s.params.platform = .flatRam := by decide
theorem witness_PortReadsAndWrites_eight :
    let s := { port [] 0x2F 0x37 with params := { p6510 with variant := .mos8500, portLines := 8 } }
    s.params.hasIoPort = true ∧ 7 < s.params.portLines ∧ s.params.portLines ≤ 8 := by decide

theorem witness_WritesGoThroughTheRom_kernal :
    let s := machine [] 0x37
    s.params.platform = .commodore64 ∧ currentBank s ≠ .cxx01 ∧ currentRegion s 0xFFFF = .kernal := by decide
theorem witness_WritesGoThroughTheRom_basic :
    let s := machine [] 0x37
    currentBank s ≠ .cxx01 ∧ currentRegion s 0xBFFF = .basic := by decide
theorem witness_WritesGoThroughTheRom_character :
    let s := machine [] 0x33
    currentBank s ≠ .cxx01 ∧ currentRegion s 0xD000 = .character := by decide
theorem witness_WritesGoThroughTheRom_cartridge :
    let s := { machine [] 0x37 with exrom := false, game := false }
    currentBank s ≠ .cxx01 ∧ currentRegion s 0x8000 = .romL ∧ currentRegion s 0xA000 = .romH := by decide
theorem witness_WritesGoThroughTheRom_ultimax :
    let s := { machine [] 0x37 with game := false }
    s.params.platform = .commodore64 ∧ currentBank s = .cxx01 ∧ 0x1000 ≤ (0x1000 : Word).toNat := by decide

theorem witness_PortLinesSelectTheMemory :
    let s := machine [] 0x37
    s.params.platform = .commodore64 ∧ ¬(s.params.hasIoPort = true ∧ ((0x0002 : Word) = 0x0000 ∨ (0x0002 : Word) = 0x0001)) ∧
    s.params.hasIoPort = true ∧ 3 ≤ s.params.portLines ∧ s.ddr.getLsbD 0 = true ∧ s.ddr.getLsbD 1 = true ∧
    s.ddr.getLsbD 2 = true := by decide
theorem witness_ColourRamAndIoArea_colour :
    let s := machine [] 0x37
    s.params.platform = .commodore64 ∧ currentRegion s 0xD800 = .io ∧ currentRegion s 0xDBFF = .io := by decide
theorem witness_ColourRamAndIoArea_others :
    let s := machine [] 0x37
    [0xD000, 0xD3FF, 0xD400, 0xD7FF, 0xDC00, 0xDCFF, 0xDD00, 0xDDFF, 0xDE00, 0xDFFF].all
      (fun a => currentRegion s a == .io) = true := by decide
theorem witness_EveryListedAccessReachesTheBus :
    let s := { start [] [] with params := { Params.atReset with platform := .external }, nmiPending := true }
    s.params.platform = .external ∧ ∃ t, step s = .next t ∧ t.jammed = false := ⟨rfl, _, rfl, rfl⟩
theorem witness_EveryListedAccessReachesTheBus_reset :
    let s := { start [] [] with params := { Params.atReset with platform := .external }, resetLine := true }
    s.params.platform = .external ∧ ∃ t, step s = .next t ∧ t.jammed = false :=
  ⟨rfl, _, rfl, by simp only [resetSequence, readEach_eq, jumpThrough_afterReads]; rfl⟩
theorem witness_CommodoreMemoryTable_boundary :
    (0xE000 : Nat) ≤ (0xE000 : Word).toNat ∧ (0xFFFF : Word).toNat ≤ 0xFFFF ∧ (0x0FFF : Word).toNat ≤ 0x0FFF := by decide

end Sys2Proof.Tests
end

section
/-! The statements about a step as a whole. A step's effect on the bus is said once, as a trail of bus cycles; the statements
about every instruction are facts about trails. -/

namespace Sys2Proof.Machine

/-! ## Trails of bus cycles -/

/-- Two states agree but for the registers, pc and the pending bits: nothing that lies on the bus, no access and no cycle
tells them apart. -/
def RegistersOnly (u t : State) : Prop :=
  u = { t with
    A := u.A, X := u.X, Y := u.Y, S := u.S, P := u.P, pc := u.pc, nmiPending := u.nmiPending, vectored := u.vectored }

theorem RegistersOnly.of_sameButRegisters {u t : State} (h : SameButRegisters u t) : RegistersOnly u t := by
  rw [SameButRegisters] at h
  rw [h]
  rfl

/-- A state is reached from `s` by bus cycles and by changes of registers between them; the list holds the addresses of the
write cycles, in order (00_scope.md R8). -/
inductive BusTrail (s : State) : List Word → State → Prop
  | start : BusTrail s [] s
  | read {ws : List Word} {t : State} (a : Word) (h : BusTrail s ws t) : BusTrail s ws (dummyRead a t)
  | write {ws : List Word} {t : State} (a : Word) (v : Byte) (h : BusTrail s ws t) :
      BusTrail s (ws ++ [a]) (memWrite a v t)
  | registers {ws : List Word} {t u : State} (h : BusTrail s ws t) (hu : RegistersOnly u t) : BusTrail s ws u

namespace BusTrail

variable {s t u : State} {ws vs : List Word}

theorem trans (h : BusTrail s ws t) (k : BusTrail t vs u) : BusTrail s (ws ++ vs) u := by
  induction k with
  | start => rwa [List.append_nil]
  | read a _ ih => exact ih.read a
  | write a v _ ih =>
    rw [← List.append_assoc]
    exact ih.write a v
  | registers _ hu ih => exact ih.registers hu

/-- Reads alone add no write to a trail. -/
theorem reads (up : Word) (as : List Word) (h : BusTrail s ws t) : BusTrail s ws (afterReads up as t) := by
  have each : BusTrail s ws (readEach as t) := by
    induction as generalizing t with
    | nil => exact h
    | cons a as ih => exact ih (h.read a)
  rw [readEach_eq] at each
  exact each.registers rfl

/-- A trail keeps the parameters and the ROMs (R7, 20_memory.md R89). -/
theorem params_roms (h : BusTrail s ws t) : t.params = s.params ∧ t.roms = s.roms := by
  induction h with
  | start => exact ⟨rfl, rfl⟩
  | read a _ ih => exact ih
  | write a v _ ih => rwa [memWrite_params, memWrite_roms]
  | registers _ hu ih =>
    rw [hu]
    exact ih

end BusTrail

/-! ## What leaves a trail -/

theorem push_trail (v : Byte) (s : State) : BusTrail s [stackAddr s] (push v s) :=
  (BusTrail.start.write (stackAddr s) v).registers rfl

theorem jumpThrough_trail (lowAt highAt : Word) (s : State) : BusTrail s [] (jumpThrough lowAt highAt s) :=
  ((BusTrail.start.read lowAt).read highAt).registers rfl

/-- The write cycles of an interrupt's frame (60_exceptions.md R320). -/
theorem takeException_trail (b setI : Bool) (vector : Word) (s : State) :
    BusTrail s [stackAddr s, wordOf 0x01 (s.S - 1), wordOf 0x01 (s.S - 2)] (takeException b setI vector s) := by
  rw [takeException_eq]
  exact ((((BusTrail.start.write _ _).write _ _).write _ _).reads 0 _).registers rfl

theorem modified_trail (m : MemMode) (new : Byte) (s : State) :
    BusTrail s [(targetOf m s).fixed, (targetOf m s).fixed] (modified m new s) :=
  ((BusTrail.start.reads _ _).write _ _).write _ _

theorem stored_trail (m : MemMode) (v : Byte) (s : State) : BusTrail s [(targetOf m s).fixed] (stored m v s) :=
  (BusTrail.start.reads _ _).write _ _

theorem storedHigh_trail (m : MemMode) (v : Byte) (s : State) :
    BusTrail s [highStoreAddress m v s] (storedHigh m v s) :=
  (BusTrail.start.reads _ _).write _ _

theorem jsr_trail (w : Word) (s : State) : BusTrail s [stackAddr s, wordOf 0x01 (s.S - 1)] (jsr w s) := by
  rw [jsr_eq]
  exact ((((BusTrail.start.reads _ _).write _ _).write _ _).reads 0 _).registers rfl

/-- BRK's writes, whatever overtakes it (R170, R323). -/
theorem brkSequence_trail (s : State) :
    BusTrail s [stackAddr s, wordOf 0x01 (s.S - 1), wordOf 0x01 (s.S - 2)] (brkSequence s) := by
  unfold brkSequence
  split
  · have taken : BusTrail s [] { s with nmiPending := false } := BusTrail.start.registers rfl
    exact taken.trans (takeException_trail true true Config.nmiVector _)
  · exact takeException_trail true true _ s
  · exact takeException_trail true true _ s

theorem nmiSequence_trail (s : State) :
    BusTrail s [stackAddr s, wordOf 0x01 (s.S - 1), wordOf 0x01 (s.S - 2)] (nmiSequence s) := by
  have entered : BusTrail s [] { dummyRead s.pc (dummyRead s.pc s) with nmiPending := false, vectored := true } :=
    ((BusTrail.start.read s.pc).read s.pc).registers rfl
  exact entered.trans (takeException_trail false s.params.nmiSetsI Config.nmiVector _)

theorem irqSequence_trail (s : State) :
    BusTrail s [stackAddr s, wordOf 0x01 (s.S - 1), wordOf 0x01 (s.S - 2)] (irqSequence s) := by
  have entered : BusTrail s [] { dummyRead s.pc (dummyRead s.pc s) with vectored := true } :=
    ((BusTrail.start.read s.pc).read s.pc).registers rfl
  exact entered.trans (takeException_trail false true Config.irqVector _)

/-- The state in which a reset sequence begins its reads (70_reset_and_hazards.md R350, R354, R355). -/
def resetStart (s : State) : State :=
  { s with
    jammed := false, nmiPending := false, resetLine := false, vectored := false,
    S := Config.resetS s.tick, P := { s.P with i := Config.resetI s.tick },
    ddr := 0, prLatch := Config.resetLatch s.tick &&& (if s.params.hasIoPort then portMask s.params else 0),
    device := Config.deviceAfterReset s.device s.tick }

theorem resetSequence_trail (s : State) : BusTrail (resetStart s) [] (resetSequence s) := by
  have reads := BusTrail.start.reads (s := resetStart s) 0 ((Config.resetReads s.tick).take 5)
  rw [← readEach_eq] at reads
  exact reads.trans (jumpThrough_trail _ _ _)

/-- What every instruction does on the bus: a trail with the write cycles of its class, unless it jams. -/
theorem classEffect_trail (i : Instr) (s t : State) (h : ClassEffect (shapeOf i s) s t) :
    t = jam (afterImplied s) ∨ BusTrail s (storeAddresses i s) t := by
  have reads (up : Word) (as : List Word) : BusTrail s [] (afterReads up as s) := BusTrail.start.reads up as
  unfold storeAddresses
  cases hs : shapeOf i s <;> rw [hs] at h
  case implied => exact .inr ((reads 1 _).registers (.of_sameButRegisters h))
  case immediate => exact .inr ((reads 2 _).registers (.of_sameButRegisters h))
  case read m => exact .inr ((reads _ _).registers (.of_sameButRegisters h))
  case modify m =>
    obtain ⟨new, h⟩ := h
    exact .inr ((modified_trail m new s).registers (.of_sameButRegisters h))
  case write m =>
    obtain ⟨v, rfl⟩ := h
    exact .inr (stored_trail m v s)
  case writeHigh m reg => exact .inr ((storedHigh_trail m _ s).registers (.of_sameButRegisters h))
  case branch taken off =>
    obtain ⟨as, -, h⟩ := h
    exact .inr ((reads 2 as).registers (h ▸ rfl))
  case brk =>
    obtain rfl := h
    exact .inr ((reads 2 _).trans (brkSequence_trail (afterReads 2 [s.pc, s.pc + 1] s)))
  case ret =>
    obtain ⟨as, -, h⟩ := h
    exact .inr ((reads 1 as).registers (h ▸ rfl))
  case push =>
    obtain ⟨v, rfl⟩ := h
    exact .inr ((reads 1 _).trans (push_trail v (afterImplied s)))
  case pull =>
    obtain ⟨as, -, h⟩ := h
    exact .inr ((reads 1 as).registers (h ▸ rfl))
  case call =>
    obtain ⟨w, rfl⟩ := h
    exact .inr (jsr_trail w s)
  case jump =>
    have h : t = { afterReads 3 [s.pc, s.pc + 1, s.pc + 2] s with pc := t.pc } := h
    exact .inr ((reads 3 [s.pc, s.pc + 1, s.pc + 2]).registers (h ▸ rfl))
  case jumpIndirect =>
    obtain ⟨as, -, h⟩ := h
    exact .inr ((reads 3 as).registers (h ▸ rfl))
  case jam => exact .inl h
  case rareJam =>
    rcases h with h | rfl
    · exact .inl h
    · exact .inr (reads 2 _)

theorem exec_trail {i : Instr} {s t : State} (h : exec i s = .next t) :
    t = jam (afterImplied s) ∨ BusTrail s (storeAddresses i s) t :=
  classEffect_trail i s t (exec_class i s t h)

theorem exec_trail_of_not_jammed {i : Instr} {s t : State} (h : exec i s = .next t) (hj : t.jammed = false) :
    BusTrail s (storeAddresses i s) t := by
  rcases exec_trail h with rfl | trail
  · cases hj
  · exact trail

/-! ## What a step does -/

/-- The boundary takes nothing off the bus and puts nothing on it: a new list of accesses begins (log 9). -/
theorem boundary_bus (s : State) :
    (boundary s).params = s.params ∧ (boundary s).roms = s.roms ∧ (boundary s).device = s.device ∧
    (boundary s).tick = s.tick ∧ (boundary s).accesses = [] := by
  unfold boundary
  split <;> exact ⟨rfl, rfl, rfl, rfl, rfl⟩

theorem boundary_of_no_input {s : State} (h : s.inputs = []) :
    boundary s = { s with accesses := [], defer := false, hijack := .none } := by
  rw [boundary, h]

theorem boundary_of_input {s : State} {e : Input} {es : List Input} (h : s.inputs = e :: es) :
    boundary s = applyInput e { s with accesses := [], inputs := es } := by
  rw [boundary, h]

theorem runInstruction_of_decode {s : State} {i : Instr} {rest : List Byte} (h : decode (fetchBytes s) = .ok (i, rest)) :
    runInstruction s = exec i (startInstr s) := by
  rw [runInstruction, h]

theorem exec_of_runInstruction {s t : State} (h : runInstruction s = .next t) : ∃ i, exec i (startInstr s) = .next t := by
  unfold runInstruction at h
  split at h
  · exact ⟨_, h⟩
  · cases h

theorem dispatch_instruction {s : State} (hr : s.resetLine = false) (hj : s.jammed = false) (hn : takesNmi s = false)
    (hi : takesIrq s = false) : dispatch s = runInstruction s := by
  simp [dispatch, hr, hj, hn, hi]

theorem takesNmi_of_none_pending {s : State} (h : s.nmiPending = false) : takesNmi s = false := by
  simp [takesNmi, h]

theorem takesIrq_of_line_high {s : State} (h : s.irqLine = false) : takesIrq s = false := by
  simp [takesIrq, h]

/-- What can happen after the environment has acted (60_exceptions.md R316). -/
theorem dispatch_cases {s t : State} (h : dispatch s = .next t) :
    (s.resetLine = true ∧ t = resetSequence s) ∨
    (s.resetLine = false ∧ ((s.jammed = true ∧ t = jamCycle s) ∨ t = nmiSequence s ∨ t = irqSequence s ∨
      ∃ i, exec i (startInstr s) = .next t)) := by
  unfold dispatch at h
  split at h
  next hr => exact .inl ⟨hr, (Host.Outcome.next.inj h).symm⟩
  next hr =>
    refine .inr ⟨Bool.eq_false_iff.mpr hr, ?_⟩
    split at h
    next hj => exact .inl ⟨hj, (Host.Outcome.next.inj h).symm⟩
    next =>
      split at h
      · exact .inr (.inl (Host.Outcome.next.inj h).symm)
      · split at h
        · exact .inr (.inr (.inl (Host.Outcome.next.inj h).symm))
        · exact .inr (.inr (.inr (exec_of_runInstruction h)))

/-- Every step but one of a jammed processor is a trail of bus cycles, which begins at the boundary's state or, for a
reset, where the reset sequence begins. -/
theorem step_trail {s t : State} (h : step s = .next t) :
    ((boundary s).resetLine = true ∧ BusTrail (resetStart (boundary s)) [] t) ∨
    ((boundary s).resetLine = false ∧
      (((boundary s).jammed = true ∧ t = jamCycle (boundary s)) ∨
       t = jam (afterImplied (startInstr (boundary s))) ∨
       ∃ ws, BusTrail (boundary s) ws t)) := by
  rcases dispatch_cases h with ⟨hr, rfl⟩ | ⟨hr, h⟩
  · exact .inl ⟨hr, resetSequence_trail _⟩
  refine .inr ⟨hr, ?_⟩
  rcases h with h | rfl | rfl | ⟨i, h⟩
  · exact .inl h
  · exact .inr (.inr ⟨_, nmiSequence_trail _⟩)
  · exact .inr (.inr ⟨_, irqSequence_trail _⟩)
  · have started : BusTrail (boundary s) [] (startInstr (boundary s)) := BusTrail.start.registers rfl
    rcases exec_trail h with rfl | trail
    · exact .inr (.inl rfl)
    · exact .inr (.inr ⟨_, started.trans trail⟩)

/-- Settles O10: a trail keeps the parameters and the ROMs, and so do the two steps that are none, those of a jam. -/
theorem stepKeepsParametersAndRoms : Obligations.StepKeepsParametersAndRoms := by
  intro s t h
  obtain ⟨hp, ho, -⟩ := boundary_bus s
  rw [← hp, ← ho]
  rcases step_trail h with ⟨-, trail⟩ | ⟨-, ⟨-, rfl⟩ | rfl | ⟨ws, trail⟩⟩
  · exact trail.params_roms
  · exact ⟨rfl, rfl⟩
  · exact ⟨rfl, rfl⟩
  · exact trail.params_roms

/-! ## The write cycles of an instruction -/

theorem writesIn_append (l k : List BusAccess) : writesIn (l ++ k) = writesIn l ++ writesIn k := by
  induction l with
  | nil => rfl
  | cons e l ih =>
    cases e with
    | read a v => exact ih
    | write a v => exact congrArg (a :: ·) ih

/-- The writes a trail lists are those it makes, in order. -/
theorem BusTrail.writes {s t : State} {ws : List Word} (h : BusTrail s ws t) :
    ∃ log, t.accesses = s.accesses ++ log ∧ writesIn log = ws := by
  induction h with
  | start => exact ⟨[], (List.append_nil _).symm, rfl⟩
  | @read ws t a _ ih =>
    obtain ⟨log, hlog, hws⟩ := ih
    refine ⟨log ++ [.read a (peek a t)], ?_, ?_⟩
    · rw [dummyRead_accesses, hlog, List.append_assoc]
    · rw [writesIn_append, hws]
      exact List.append_nil ws
  | @write ws t a v _ ih =>
    obtain ⟨log, hlog, hws⟩ := ih
    refine ⟨log ++ [.write a (if isPortRegister t.params a then Config.busResidue t.tick else v)], ?_, ?_⟩
    · rw [memWrite_accesses, hlog, List.append_assoc]
    · rw [writesIn_append, hws]
      rfl
  | registers _ hu ih =>
    rw [hu]
    exact ih

/-- Settles O12: an instruction that does not jam leaves a trail with the write cycles of its class. -/
theorem writeCyclesAreThoseListed : Obligations.WriteCyclesAreThoseListed :=
  fun _ _ _ h hj => (exec_trail_of_not_jammed h hj).writes

/-! ## A bus that is not memory -/

theorem busSession_append {p : Params} {l k : List BusAccess} {device tick middle last : Nat}
    (h : busSession p l device tick middle) (hk : busSession p k middle (tick + l.length) last) :
    busSession p (l ++ k) device tick last := by
  induction l generalizing device tick with
  | nil =>
    obtain rfl : middle = device := h
    exact hk
  | cons e l ih =>
    rw [List.length_cons, Nat.add_comm l.length, ← Nat.add_assoc] at hk
    cases e with
    | read a v =>
      simp only [List.cons_append, busSession] at h ⊢
      split
      next hp => exact ih (by rwa [if_pos hp] at h) hk
      next hp =>
        rw [if_neg hp] at h
        exact ⟨h.1, ih h.2 hk⟩
    | write a v => exact ih h hk

/-- A read cycle on an external bus (R60; log 41, log 42). -/
theorem busSession_read {s : State} (hx : s.params.platform = .external) (a : Word) :
    busSession s.params [.read a (peek a s)] s.device s.tick (readEffect a s) := by
  simp only [busSession]
  split
  next hp => rw [readEffect, if_pos hp]
  next hp =>
    have hp : isPortRegister s.params a = false := Bool.eq_false_iff.mpr hp
    refine ⟨?_, ?_⟩
    · simp only [peek_of_not_port a s hp, busRead, hx]
    · simp [readEffect, hp, busReadEffect, readsDevice, hx]

/-- A write cycle puts one byte on an external bus: the byte written, or the free byte of a port register (log 30). -/
theorem memWrite_device_external {s : State} (hx : s.params.platform = .external) (a : Word) (v : Byte) :
    (memWrite a v s).device = Config.deviceAfterWrite (.address a)
      (if isPortRegister s.params a then Config.busResidue s.tick else v) s.device s.tick := by
  cases hp : isPortRegister s.params a with
  | false => simp [memWrite_of_not_port a v s hp, busWrite, hx]
  | true =>
    obtain ⟨hport, rfl | rfl⟩ : s.params.hasIoPort = true ∧ (a = 0 ∨ a = 1) := by simpa [isPortRegister] using hp
    · simp [memWrite, hport, busWrite, hx]
    · simp [memWrite, hport, busWrite, hx]

/-- From `s` to `t` the accesses listed are a session of the bus, one cycle each (R8, R60). -/
def FollowsBus (s t : State) : Prop :=
  ∃ log, t.accesses = s.accesses ++ log ∧ t.tick = s.tick + log.length ∧
    busSession s.params log s.device s.tick t.device

/-- One more access. -/
theorem FollowsBus.snoc {s t u : State} {e : BusAccess} (h : FollowsBus s t) (he : u.accesses = t.accesses ++ [e])
    (ht : u.tick = t.tick + 1) (hs : busSession s.params [e] t.device t.tick u.device) : FollowsBus s u := by
  obtain ⟨log, hlog, htick, hsession⟩ := h
  rw [htick] at hs
  refine ⟨log ++ [e], ?_, ?_, busSession_append hsession hs⟩
  · rw [he, hlog, List.append_assoc]
  · rw [ht, htick, List.length_append, Nat.add_assoc]
    rfl

/-- On an external bus every trail is a session of the bus. -/
theorem BusTrail.followsBus {s t : State} {ws : List Word} (hx : s.params.platform = .external) (h : BusTrail s ws t) :
    FollowsBus s t := by
  induction h with
  | start => exact ⟨[], (List.append_nil _).symm, rfl, rfl⟩
  | @read ws t a h ih =>
    obtain ⟨hp, -⟩ := h.params_roms
    exact ih.snoc rfl rfl (hp ▸ busSession_read (hp ▸ hx) a)
  | @write ws t a v h ih =>
    obtain ⟨hp, -⟩ := h.params_roms
    exact ih.snoc (memWrite_accesses a v t) (memWrite_tick a v t) (memWrite_device_external (hp ▸ hx) a v)
  | registers _ hu ih =>
    rw [hu]
    exact ih

/-- Where the list of accesses begins empty, the session is the whole of it. -/
theorem FollowsBus.session_of_no_access {s t : State} (h : FollowsBus s t) (ha : s.accesses = []) :
    busSession s.params t.accesses s.device s.tick t.device ∧ t.tick = s.tick + t.accesses.length := by
  obtain ⟨log, hlog, htick, session⟩ := h
  obtain rfl : t.accesses = log := by rw [hlog, ha, List.nil_append]
  exact ⟨session, htick⟩

/-- Settles O60: a step that does not leave the processor jammed is a trail from the boundary, or from the start of a reset
sequence, and on an external bus a trail is a session of the bus. -/
theorem everyListedAccessReachesTheBus : Obligations.EveryListedAccessReachesTheBus := by
  intro s t hx h hj first
  obtain ⟨hp, -, hd, ht, ha⟩ := boundary_bus s
  have hxb : (boundary s).params.platform = .external := hp ▸ hx
  rcases step_trail h with ⟨hr, trail⟩ | ⟨hr, ⟨hb, rfl⟩ | rfl | ⟨ws, trail⟩⟩
  · have hfirst : first = (resetStart (boundary s)).device := by simp only [first, hr, if_true, resetStart, hd, ht]
    rw [hfirst, ← hp, ← ht]
    have hxr : (resetStart (boundary s)).params.platform = .external := hxb
    exact (trail.followsBus hxr).session_of_no_access ha
  · cases hb.symm.trans hj
  · cases hj
  · have hfirst : first = (boundary s).device := by simp only [first, hr, Bool.false_eq_true, if_false, hd]
    rw [hfirst, ← hp, ← ht]
    exact (trail.followsBus hxb).session_of_no_access ha

/-! ## The instruction at pc -/

/-- Settles O4: the boundary's two cases, and the last branch of `dispatch`. -/
theorem stepRunsTheDecodedInstruction : Obligations.StepRunsTheDecodedInstruction := by
  refine ⟨fun s i rest hr hj hn hi hd => ?_, fun s h => boundary_of_no_input h, fun s e es h => boundary_of_input h⟩
  exact (dispatch_instruction hr hj hn hi).trans (runInstruction_of_decode hd)

/-- The opcode of an instruction has an entry of the matrix, and the encoding is the opcode and the operand bytes that
entry asks for (30_encoding.md R102 to R104). -/
inductive EncodedBy : Instr → List Byte → Prop
  | bare {op : Byte} {i : Instr} (h : formOf op = some (.bare i)) : EncodedBy i [op]
  | byte {op : Byte} {f : Byte → Instr} (h : formOf op = some (.byte f)) (b : Byte) : EncodedBy (f b) [op, b]
  | word {op : Byte} {f : Word → Instr} (h : formOf op = some (.word f)) (w : Word) :
      EncodedBy (f w) (op :: wordBytes w)

theorem encodedBy_encode (i : Instr) : EncodedBy i (encode i) := by
  cases i with
  | oraIzx b | sloIzx b | nopZp04 b | oraZp b | aslZp b | sloZp b | oraImm b | ancImm0B b | bpl b | oraIzy b
  | sloIzy b | nopZpx14 b | oraZpx b | aslZpx b | sloZpx b | andIzx b | rlaIzx b | bitZp b | andZp b | rolZp b
  | rlaZp b | andImm b | ancImm2B b | bmi b | andIzy b | rlaIzy b | nopZpx34 b | andZpx b | rolZpx b | rlaZpx b
  | eorIzx b | sreIzx b | nopZp44 b | eorZp b | lsrZp b | sreZp b | eorImm b | asrImm b | bvc b | eorIzy b
  | sreIzy b | nopZpx54 b | eorZpx b | lsrZpx b | sreZpx b | adcIzx b | rraIzx b | nopZp64 b | adcZp b | rorZp b
  | rraZp b | adcImm b | arrImm b | bvs b | adcIzy b | rraIzy b | nopZpx74 b | adcZpx b | rorZpx b | rraZpx b
  | nopImm80 b | staIzx b | nopImm82 b | saxIzx b | styZp b | staZp b | stxZp b | saxZp b | nopImm89 b | aneImm b
  | bcc b | staIzy b | shaIzy b | styZpx b | staZpx b | stxZpy b | saxZpy b | ldyImm b | ldaIzx b | ldxImm b
  | laxIzx b | ldyZp b | ldaZp b | ldxZp b | laxZp b | ldaImm b | lxaImm b | bcs b | ldaIzy b | laxIzy b | ldyZpx b
  | ldaZpx b | ldxZpy b | laxZpy b | cpyImm b | cmpIzx b | nopImmC2 b | dcpIzx b | cpyZp b | cmpZp b | decZp b
  | dcpZp b | cmpImm b | sbxImm b | bne b | cmpIzy b | dcpIzy b | nopZpxD4 b | cmpZpx b | decZpx b | dcpZpx b
  | cpxImm b | sbcIzx b | nopImmE2 b | isbIzx b | cpxZp b | sbcZp b | incZp b | isbZp b | sbcImm b | sbcImmEB b
  | beq b | sbcIzy b | isbIzy b | nopZpxF4 b | sbcZpx b | incZpx b | isbZpx b =>
    exact .byte rfl b
  | nopAbs0C w | oraAbs w | aslAbs w | sloAbs w | oraAby w | sloAby w | nopAbx1C w | oraAbx w | aslAbx w | sloAbx w
  | jsr w | bitAbs w | andAbs w | rolAbs w | rlaAbs w | andAby w | rlaAby w | nopAbx3C w | andAbx w | rolAbx w
  | rlaAbx w | jmpAbs w | eorAbs w | lsrAbs w | sreAbs w | eorAby w | sreAby w | nopAbx5C w | eorAbx w | lsrAbx w
  | sreAbx w | jmpInd w | adcAbs w | rorAbs w | rraAbs w | adcAby w | rraAby w | nopAbx7C w | adcAbx w | rorAbx w
  | rraAbx w | styAbs w | staAbs w | stxAbs w | saxAbs w | staAby w | shsAby w | shyAbx w | staAbx w | shxAby w
  | shaAby w | ldyAbs w | ldaAbs w | ldxAbs w | laxAbs w | ldaAby w | lasAby w | ldyAbx w | ldaAbx w | ldxAby w
  | laxAby w | cpyAbs w | cmpAbs w | decAbs w | dcpAbs w | cmpAby w | dcpAby w | nopAbxDC w | cmpAbx w | decAbx w
  | dcpAbx w | cpxAbs w | sbcAbs w | incAbs w | isbAbs w | sbcAby w | isbAby w | nopAbxFC w | sbcAbx w | incAbx w
  | isbAbx w =>
    exact .word rfl w
  | brk | jam02 | php | aslAcc | jam12 | clc | nopImp1A | jam22 | plp | rolAcc | jam32 | sec | nopImp3A | rti
  | jam42 | pha | lsrAcc | jam52 | cli | nopImp5A | rts | jam62 | pla | rorAcc | jam72 | sei | nopImp7A | dey | txa
  | jam92 | tya | txs | tay | tax | jamB2 | clv | tsx | iny | dex | jamD2 | cld | nopImpDA | inx | nop | jamF2 | sed
  | nopImpFA =>
    exact .bare rfl

theorem EncodedBy.decode_append {i : Instr} {bs : List Byte} (h : EncodedBy i bs) (rest : List Byte) :
    decode (bs ++ rest) = .ok (i, rest) := by
  cases h with
  | bare h => simp only [List.cons_append, List.nil_append, decode, h]
  | byte h b => simp only [List.cons_append, List.nil_append, decode, h]
  | word h w => simp only [List.cons_append, List.nil_append, wordBytes, decode, h, wordOf_hi8_lo8]

theorem EncodedBy.length_le {i : Instr} {bs : List Byte} (h : EncodedBy i bs) : bs.length ≤ 3 := by
  cases h <;> simp [wordBytes]

/-- Decoding undoes encoding (30_encoding.md R100). -/
theorem decode_encode_append (i : Instr) (rest : List Byte) : decode (encode i ++ rest) = .ok (i, rest) :=
  (encodedBy_encode i).decode_append rest

theorem encode_length_le (i : Instr) : (encode i).length ≤ 3 := (encodedBy_encode i).length_le

/-- On plain RAM, away from the port, the bytes the fetches obtain are those of RAM (20_memory.md R60, R80). -/
theorem fetchBytes_getElem?_flat {s : State} (hf : s.params.platform = .flatRam) {n : Nat} (hn : n < 3)
    (hp : isPortRegister s.params (s.pc + BitVec.ofNat 16 n) = false) :
    (fetchBytes s)[n]? = some (s.ram.read (s.pc + BitVec.ofNat 16 n).toNat) := by
  match n with
  | 0 =>
    have h0 : s.pc + BitVec.ofNat 16 0 = s.pc := BitVec.add_zero s.pc
    rw [h0] at hp ⊢
    exact congrArg some (peek_flat s.pc s hf hp)
  | 1 => exact congrArg some (peekAfter_flat [s.pc] _ s hf hp)
  | 2 => exact congrArg some (peekAfter_flat [s.pc, s.pc + 1] _ s hf hp)

theorem isPortRegister_eq_false_iff (p : Params) (a : Word) :
    isPortRegister p a = false ↔ ¬(p.hasIoPort = true ∧ (a = 0x0000 ∨ a = 0x0001)) := by
  simp [isPortRegister]

/-- The encoding of an instruction stands in RAM at pc, no byte of it at a register of the port (20_memory.md R71, R80). -/
def StandsAtPc (i : Instr) (s : State) : Prop :=
  ∀ n, n < (encode i).length →
    (encode i)[n]? = some (s.ram.read (s.pc + BitVec.ofNat 16 n).toNat) ∧
    ¬(s.params.hasIoPort = true ∧ (s.pc + BitVec.ofNat 16 n = 0x0000 ∨ s.pc + BitVec.ofNat 16 n = 0x0001))

/-- What stands in plain RAM at pc is what the fetches obtain, and so what they decode to. -/
theorem StandsAtPc.decode_fetchBytes {i : Instr} {s : State} (h : StandsAtPc i s) (hf : s.params.platform = .flatRam) :
    ∃ rest, decode (fetchBytes s) = .ok (i, rest) := by
  have htake : (fetchBytes s).take (encode i).length = encode i := by
    apply List.ext_getElem?
    intro n
    rw [List.getElem?_take]
    split
    next hn =>
      obtain ⟨hbyte, hport⟩ := h n hn
      have hlen := encode_length_le i
      rw [hbyte, fetchBytes_getElem?_flat hf (by omega) ((isPortRegister_eq_false_iff _ _).mpr hport)]
    next hn => exact (List.getElem?_eq_none (Nat.le_of_not_lt hn)).symm
  have hsplit := List.take_append_drop (encode i).length (fetchBytes s)
  rw [htake] at hsplit
  exact ⟨_, hsplit ▸ decode_encode_append i _⟩

/-- Settles O5: the fetched bytes begin with the placed ones, which decode to the instruction; at the boundary of a quiet
state nothing else is due. -/
theorem fetchedBytesArePlacedBytes : Obligations.FetchedBytesArePlacedBytes := by
  intro s i hf h
  have placed : StandsAtPc i s := h
  obtain ⟨rest, hd⟩ := placed.decode_fetchBytes hf
  refine ⟨⟨rest, hd⟩, runInstruction_of_decode hd, fun hinputs hr hj hn hi => ?_⟩
  have placedAfter : StandsAtPc i { s with accesses := [], defer := false, hijack := .none } := h
  obtain ⟨rest', hd'⟩ := placedAfter.decode_fetchBytes hf
  obtain ⟨stepIsExec, -⟩ := stepRunsTheDecodedInstruction
  have quietStep := stepIsExec s i rest'
  rw [boundary_of_no_input hinputs] at quietStep
  exact quietStep hr hj (takesNmi_of_none_pending hn) (takesIrq_of_line_high hi) hd'

/-! ## Transfers of the stack pointer, and loads -/

/-- `SetNZ` spelled out (00_scope.md R11). -/
theorem setNZ_eq (v : Byte) (p : Flags) : setNZ v p = { p with n := v.getLsbD 7, z := decide (v = 0) } := by
  rw [setNZ, BitVec.msb_eq_getLsbD_last]
  rfl

/-- Settles O20: both are implied instructions, and TSX sets N and Z by `setNZ`. -/
theorem stackPointerTransfers : Obligations.StackPointerTransfers := by
  refine ⟨setNZ_eq, fun s => ⟨⟨rfl, ?_⟩, rfl, ?_⟩⟩
  · have h : exec .tsx s = .next (tsx (afterImplied s)) := runImplied_eq tsx s
    rw [h, tsx, setNZ_eq]
    rfl
  · exact runImplied_eq txs s

theorem lda_eq (v : Byte) (s : State) :
    lda v s = { s with A := v, P := { s.P with n := v.getLsbD 7, z := decide (v = 0) } } := by
  rw [lda, setNZ_eq]

theorem ldx_eq (v : Byte) (s : State) :
    ldx v s = { s with X := v, P := { s.P with n := v.getLsbD 7, z := decide (v = 0) } } := by
  rw [ldx, setNZ_eq]

theorem ldy_eq (v : Byte) (s : State) :
    ldy v s = { s with Y := v, P := { s.P with n := v.getLsbD 7, z := decide (v = 0) } } := by
  rw [ldy, setNZ_eq]

/-- An immediate instruction whose operation is known (40_addressing.md R132). -/
theorem runImm_next {op : Byte → State → State} {v : Byte} {s t : State} (h : op v (afterImmediate s) = t) :
    runImm op v s = .next t := by
  rw [runImm_eq, h]

/-- A Read-class instruction whose operation is known. -/
theorem runRead_next {op : Byte → State → State} {m : MemMode} {s t : State}
    (h : op (operandByte m s) (afterRead m s) = t) : runRead op m s = .next t := by
  rw [runRead_eq, h]

/-- Settles O23: each form is the load of its mnemonic in its mode. -/
theorem loadsReplaceTheRegister : Obligations.LoadsReplaceTheRegister := by
  intro s v b w
  refine ⟨⟨rfl, runImm_next (lda_eq v _)⟩, ?lda, ⟨rfl, runImm_next (ldx_eq v _)⟩, ?ldx,
    ⟨rfl, runImm_next (ldy_eq v _)⟩, ?ldy⟩
  case lda =>
    simp only [List.forall_mem_cons]
    exact ⟨⟨rfl, runRead_next (lda_eq _ _)⟩, ⟨rfl, runRead_next (lda_eq _ _)⟩, ⟨rfl, runRead_next (lda_eq _ _)⟩,
      ⟨rfl, runRead_next (lda_eq _ _)⟩, ⟨rfl, runRead_next (lda_eq _ _)⟩, ⟨rfl, runRead_next (lda_eq _ _)⟩,
      ⟨rfl, runRead_next (lda_eq _ _)⟩, List.forall_mem_nil _⟩
  case ldx =>
    simp only [List.forall_mem_cons]
    exact ⟨⟨rfl, runRead_next (ldx_eq _ _)⟩, ⟨rfl, runRead_next (ldx_eq _ _)⟩, ⟨rfl, runRead_next (ldx_eq _ _)⟩,
      ⟨rfl, runRead_next (ldx_eq _ _)⟩, List.forall_mem_nil _⟩
  case ldy =>
    simp only [List.forall_mem_cons]
    exact ⟨⟨rfl, runRead_next (ldy_eq _ _)⟩, ⟨rfl, runRead_next (ldy_eq _ _)⟩, ⟨rfl, runRead_next (ldy_eq _ _)⟩,
      ⟨rfl, runRead_next (ldy_eq _ _)⟩, List.forall_mem_nil _⟩

end Sys2Proof.Machine
end

section
/-! What the instructions leave alone: memory, the port, the devices and the environment. -/

namespace Sys2Proof.Machine

/-! ## What a write cycle leaves alone -/

theorem busWrite_ddr (s : State) (a : Word) (v : Byte) : (busWrite s a v).ddr = s.ddr := by
  rw [busWrite_frame]

theorem busWrite_prLatch (s : State) (a : Word) (v : Byte) : (busWrite s a v).prLatch = s.prLatch := by
  rw [busWrite_frame]

/-- Only a write to 0000 of a part with the port changes DDR (20_memory.md R80). -/
theorem memWrite_ddr {a : Word} {s : State} (v : Byte) (h : s.params.hasIoPort = true → a ≠ 0x0000) :
    (memWrite a v s).ddr = s.ddr := by
  unfold memWrite
  split
  next hp =>
    simp only [Bool.and_eq_true, beq_iff_eq] at hp
    exact absurd hp.2 (h hp.1)
  next =>
    split
    · exact busWrite_ddr _ _ _
    · exact busWrite_ddr _ _ _

/-- Only a write to 0001 of a part with the port changes the latch of PR (20_memory.md R82). -/
theorem memWrite_prLatch {a : Word} {s : State} (v : Byte) (h : s.params.hasIoPort = true → a ≠ 0x0001) :
    (memWrite a v s).prLatch = s.prLatch := by
  unfold memWrite
  split
  next => exact busWrite_prLatch _ _ _
  next =>
    split
    next hp =>
      simp only [Bool.and_eq_true, beq_iff_eq] at hp
      exact absurd hp.2 (h hp.1)
    next => exact busWrite_prLatch _ _ _

/-- On plain RAM no write reaches a device, port or no port (R60). -/
theorem memWrite_device_flat {s : State} (hf : s.params.platform = .flatRam) (a : Word) (v : Byte) :
    (memWrite a v s).device = s.device := by
  have onRam (u : State) (w : Byte) (hu : u.params.platform = .flatRam) : (busWrite u a w).device = u.device := by
    simp only [busWrite, hu, writeRam_device]
  unfold memWrite
  split
  · exact onRam _ _ hf
  · split
    · exact onRam _ _ hf
    · exact onRam _ _ hf

/-- The lines, the parameters and the model's own input fields are the same in the two states. -/
structure SameEnvironment (s t : State) : Prop where
  irqLine : t.irqLine = s.irqLine
  resetLine : t.resetLine = s.resetLine
  portIn : t.portIn = s.portIn
  exrom : t.exrom = s.exrom
  game : t.game = s.game
  params : t.params = s.params
  inputs : t.inputs = s.inputs
  defer : t.defer = s.defer
  hijack : t.hijack = s.hijack

theorem memWrite_sameEnvironment (a : Word) (v : Byte) (s : State) : SameEnvironment s (memWrite a v s) := by
  rw [memWrite_frame]
  constructor <;> rfl

/-! ## What a trail of bus cycles leaves alone -/

namespace BusTrail

variable {s t : State} {ws : List Word}

/-- A trail keeps every byte it has no write cycle at (20_memory.md R60, R86). -/
theorem keeps_memory (h : BusTrail s ws t) {a : Word} (ha : a ∉ ws) :
    t.ram.read a.toNat = s.ram.read a.toNat ∧ t.colorRam.read a.toNat = s.colorRam.read a.toNat := by
  induction h with
  | start => exact ⟨rfl, rfl⟩
  | read _ _ ih => exact ih ha
  | @write ws t b v _ ih =>
    simp only [List.mem_append, List.mem_singleton, not_or] at ha
    obtain ⟨hws, hne⟩ := ha
    have hplace : a.toNat ≠ b.toNat := fun e => hne (BitVec.eq_of_toNat_eq e)
    rw [memWrite_ram_read_of_ne b v t hplace, memWrite_colorRam_read_of_ne b v t hplace]
    exact ih hws
  | registers _ hu ih =>
    rw [hu]
    exact ih ha

/-- A trail without a write to DDR's address, or of a part without the port, keeps DDR (R80). -/
theorem keeps_ddr (h : BusTrail s ws t) (hw : s.params.hasIoPort = true → 0x0000 ∉ ws) : t.ddr = s.ddr := by
  induction h with
  | start => rfl
  | read _ _ ih => exact ih hw
  | @write ws t b v h ih =>
    simp only [List.mem_append, List.mem_singleton, not_or] at hw
    have hb : t.params.hasIoPort = true → b ≠ 0x0000 := fun hp e => (hw (h.params_roms.1 ▸ hp)).2 e.symm
    rw [memWrite_ddr v hb]
    exact ih fun hp => (hw hp).1
  | registers _ hu ih =>
    rw [hu]
    exact ih hw

/-- A trail without a write to PR's address, or of a part without the port, keeps the latch of PR (R82). -/
theorem keeps_prLatch (h : BusTrail s ws t) (hw : s.params.hasIoPort = true → 0x0001 ∉ ws) : t.prLatch = s.prLatch := by
  induction h with
  | start => rfl
  | read _ _ ih => exact ih hw
  | @write ws t b v h ih =>
    simp only [List.mem_append, List.mem_singleton, not_or] at hw
    have hb : t.params.hasIoPort = true → b ≠ 0x0001 := fun hp e => (hw (h.params_roms.1 ▸ hp)).2 e.symm
    rw [memWrite_prLatch v hb]
    exact ih fun hp => (hw hp).1
  | registers _ hu ih =>
    rw [hu]
    exact ih hw

/-- On plain RAM a trail reaches no device (R60; log 41). -/
theorem keeps_device_flat (hf : s.params.platform = .flatRam) (h : BusTrail s ws t) : t.device = s.device := by
  induction h with
  | start => rfl
  | @read ws t a h ih => exact (readEffect_flat a t (h.params_roms.1 ▸ hf)).trans ih
  | @write ws t a v h ih => exact (memWrite_device_flat (h.params_roms.1 ▸ hf) a v).trans ih
  | registers _ hu ih =>
    rw [hu]
    exact ih

theorem sameEnvironment (h : BusTrail s ws t) : SameEnvironment s t := by
  induction h with
  | start => constructor <;> rfl
  | read _ _ ih => exact { ih with }
  | @write ws t a v _ ih =>
    have w := memWrite_sameEnvironment a v t
    exact ⟨w.irqLine.trans ih.irqLine, w.resetLine.trans ih.resetLine, w.portIn.trans ih.portIn, w.exrom.trans ih.exrom,
      w.game.trans ih.game, w.params.trans ih.params, w.inputs.trans ih.inputs, w.defer.trans ih.defer,
      w.hijack.trans ih.hijack⟩
  | registers _ hu ih =>
    rw [hu]
    exact { ih with }

end BusTrail

/-! ## The pending NMI and the mark of a sequence just run -/

/-- Neither the pending NMI nor the mark of an interrupt sequence just run is changed. -/
def SamePending (s t : State) : Prop := t.nmiPending = s.nmiPending ∧ t.vectored = s.vectored

theorem memWrite_samePending (a : Word) (v : Byte) (s : State) : SamePending s (memWrite a v s) := by
  rw [memWrite_frame]
  exact ⟨rfl, rfl⟩

theorem SamePending.trans {s t u : State} (h : SamePending s t) (k : SamePending t u) : SamePending s u :=
  ⟨k.1.trans h.1, k.2.trans h.2⟩

theorem SamePending.of_sameButRegisters {s t u : State} (h : SamePending s u) (k : SameButRegisters t u) :
    SamePending s t := by
  rw [SameButRegisters] at k
  rw [k]
  exact h

theorem jsr_samePending (w : Word) (s : State) : SamePending s (jsr w s) := by
  rw [jsr_eq]
  exact (memWrite_samePending (wordOf 0x01 s.S) _ (afterReads 2 _ s)).trans (memWrite_samePending _ _ _)

theorem takeException_samePending (b setI : Bool) (vector : Word) (s : State) :
    SamePending s (takeException b setI vector s) := by
  rw [takeException_eq]
  exact ((memWrite_samePending (wordOf 0x01 s.S) _ s).trans (memWrite_samePending _ _ _)).trans
    (memWrite_samePending _ _ _)

/-- BRK clears the pending NMI when an NMI overtakes it (60_exceptions.md R323), and nothing else. -/
theorem brkSequence_vectored (s : State) : (brkSequence s).vectored = s.vectored := by
  unfold brkSequence
  split
  · exact (takeException_samePending true true _ { s with nmiPending := false }).2
  · exact (takeException_samePending true true _ s).2
  · exact (takeException_samePending true true _ s).2

/-- Every class but BRK's keeps what is pending (R36, R313). -/
theorem classEffect_samePending {sh : Shape} {s t : State} (h : ClassEffect sh s t) (hb : sh ≠ .brk) :
    SamePending s t := by
  have modified (m : MemMode) (new : Byte) : SamePending s (modified m new s) :=
    (memWrite_samePending _ _ (afterReads _ _ s)).trans (memWrite_samePending _ _ _)
  cases sh with
  | implied => exact SamePending.of_sameButRegisters (u := afterImplied s) ⟨rfl, rfl⟩ h
  | immediate => exact SamePending.of_sameButRegisters (u := afterImmediate s) ⟨rfl, rfl⟩ h
  | read m => exact SamePending.of_sameButRegisters (u := afterRead m s) ⟨rfl, rfl⟩ h
  | modify m =>
    obtain ⟨new, h⟩ := h
    exact (modified m new).of_sameButRegisters h
  | write m =>
    obtain ⟨v, rfl⟩ := h
    exact memWrite_samePending _ v (afterReads _ _ s)
  | writeHigh m reg => exact (memWrite_samePending _ _ (afterReads _ _ s)).of_sameButRegisters h
  | brk => exact absurd rfl hb
  | push =>
    obtain ⟨v, rfl⟩ := h
    exact memWrite_samePending _ v (afterImplied s)
  | call =>
    obtain ⟨w, rfl⟩ := h
    exact jsr_samePending w s
  | jam =>
    obtain rfl := h
    exact ⟨rfl, rfl⟩
  | rareJam =>
    rcases h with rfl | rfl
    · exact ⟨rfl, rfl⟩
    · exact ⟨rfl, rfl⟩
  | jump =>
    have h : t = { afterReads 3 [s.pc, s.pc + 1, s.pc + 2] s with pc := t.pc } := h
    rw [h]
    exact ⟨rfl, rfl⟩
  | branch | ret | pull | jumpIndirect =>
    obtain ⟨as, -, h⟩ := h
    rw [h]
    exact ⟨rfl, rfl⟩

theorem shapeOf_eq_brk {i : Instr} {s : State} (h : shapeOf i s = .brk) : i = .brk := by
  unfold shapeOf at h
  split at h
  case h_1 => rfl
  all_goals cases h

theorem exec_samePending {i : Instr} {s t : State} (h : exec i s = .next t) (hb : i ≠ .brk) : SamePending s t :=
  classEffect_samePending (exec_class i s t h) fun e => hb (shapeOf_eq_brk e)

theorem exec_vectored {i : Instr} {s t : State} (h : exec i s = .next t) : t.vectored = s.vectored := by
  by_cases hb : i = .brk
  · subst hb
    have h : t = brkSequence (afterReads 2 [s.pc, s.pc + 1] s) := exec_class .brk s t h
    rw [h]
    exact brkSequence_vectored _
  · exact (exec_samePending h hb).2

/-! ## An instruction -/

theorem exec_sameEnvironment {i : Instr} {s t : State} (h : exec i s = .next t) : SameEnvironment s t := by
  rcases exec_trail h with rfl | trail
  · constructor <;> rfl
  · exact trail.sameEnvironment

/-- Settles O13: the bus cycles of an instruction are a trail, or those of a jam, which touches no memory. -/
theorem instructionFrame : Obligations.InstructionFrame := by
  refine ⟨fun i s t h => ?_, fun i s t h => ?_⟩
  · rcases exec_trail h with rfl | trail
    · exact ⟨fun _ _ => ⟨rfl, rfl⟩, fun _ => rfl, fun _ => rfl, fun _ => ⟨rfl, rfl⟩, rfl, fun _ hj => nomatch hj⟩
    · refine ⟨fun a ha => trail.keeps_memory ha, fun h0 => trail.keeps_ddr fun _ => h0,
        fun h1 => trail.keeps_prLatch fun _ => h1, fun hp => ?_, trail.params_roms.2,
        fun hf _ => trail.keeps_device_flat hf⟩
      have absent {p : Prop} (e : s.params.hasIoPort = true) : p := nomatch hp.symm.trans e
      exact ⟨trail.keeps_ddr absent, trail.keeps_prLatch absent⟩
  · have env := exec_sameEnvironment h
    exact ⟨env.irqLine, env.resetLine, env.portIn, env.exrom, env.game, env.params, env.inputs, env.defer, env.hijack,
      exec_vectored h, fun hb => (exec_samePending h hb).1⟩

end Sys2Proof.Machine
end

section
/-! A jammed processor until reset (10_state.md section 6), and pc past an instruction's bytes (R21). -/

namespace Sys2Proof.Machine

/-! ## A jammed processor -/

/-- What the environment does at a boundary leaves the registers, the jam, memory and the port (R316). -/
theorem boundary_frame (s : State) :
    (boundary s).A = s.A ∧ (boundary s).X = s.X ∧ (boundary s).Y = s.Y ∧ (boundary s).S = s.S ∧
    (boundary s).pc = s.pc ∧ (boundary s).jammed = s.jammed ∧ (boundary s).ram = s.ram ∧
    (boundary s).colorRam = s.colorRam ∧ (boundary s).ddr = s.ddr ∧ (boundary s).prLatch = s.prLatch := by
  unfold boundary
  split <;> exact ⟨rfl, rfl, rfl, rfl, rfl, rfl, rfl, rfl, rfl, rfl⟩

theorem dispatch_reset {s : State} (h : s.resetLine = true) : dispatch s = .next (resetSequence s) := if_pos h

theorem dispatch_jammed {s : State} (hr : s.resetLine = false) (hj : s.jammed = true) :
    dispatch s = .next (jamCycle s) := by
  simp [dispatch, hr, hj]

/-- The reset sequence is reads alone from where it begins, and pc from the vector (70_reset_and_hazards.md R350). -/
theorem resetSequence_eq (s : State) : resetSequence s =
    (let as := (Config.resetReads s.tick).take 5 ++ [Config.resetVector, Config.resetVector + 1]
    { afterReads 0 as (resetStart s) with pc := (resetSequence s).pc }) := by
  have h : resetSequence s = jumpThrough Config.resetVector (Config.resetVector + 1)
      (readEach ((Config.resetReads s.tick).take 5) (resetStart s)) := rfl
  rw [h, readEach_eq, jumpThrough_afterReads]

/-- Settles O54: without a reset a step of a jammed processor is a cycle on the bus; a reset sequence begins
unjammed. -/
theorem onlyResetLeavesTheJam : Obligations.OnlyResetLeavesTheJam := by
  intro s hj
  obtain ⟨hA, hX, hY, hS, hpc, hjam, hram, hcolor, hddr, hlatch⟩ := boundary_frame s
  refine ⟨fun hr => ?_, fun hr => ?_⟩
  · have stays := hjam.trans hj
    exact ⟨jamCycle (boundary s), dispatch_jammed hr stays, stays, hA, hX, hY, hS, hpc, rfl, hram, hcolor, hddr, hlatch⟩
  · have ends : (resetSequence (boundary s)).jammed = false := by rw [resetSequence_eq]; rfl
    exact ⟨resetSequence (boundary s), dispatch_reset hr, ends⟩

/-! ## pc -/

/-- The bytes of an instruction of a class (30_encoding.md R102). -/
def shapeLength : Shape → Word
  | .implied | .brk | .ret | .push | .pull | .jam => 1
  | .immediate | .branch _ _ | .rareJam => 2
  | .read m | .modify m | .write m | .writeHigh m _ => modeLength m
  | .call | .jump | .jumpIndirect => 3

theorem encode_length_eq (i : Instr) (s : State) : BitVec.ofNat 16 (encode i).length = shapeLength (shapeOf i s) := by
  cases i <;> rfl

theorem SameButRegisters.pc_eq {t u : State} (h : SameButRegisters t u) : t.pc = u.pc := by
  rw [SameButRegisters] at h
  rw [h]

/-- Settles O15: in each class that does not transfer control, pc is moved by the fetches alone. -/
theorem pcMovesPastTheInstruction : Obligations.PcMovesPastTheInstruction := by
  intro i s t h hj
  have effect := exec_class i s t h
  rw [encode_length_eq i s]
  generalize shapeOf i s = sh at effect ⊢
  cases sh with
  | implied => exact SameButRegisters.pc_eq effect
  | immediate => exact SameButRegisters.pc_eq effect
  | read m => exact SameButRegisters.pc_eq effect
  | modify m =>
    obtain ⟨new, same⟩ := effect
    exact same.pc_eq.trans (modified_pc m new s)
  | write m =>
    obtain ⟨v, rfl⟩ := effect
    exact stored_pc m v s
  | writeHigh m reg => exact (SameButRegisters.pc_eq effect).trans (storedHigh_pc m _ s)
  | push =>
    obtain ⟨v, rfl⟩ := effect
    exact memWrite_pc _ v (afterImplied s)
  | pull =>
    obtain ⟨as, -, effect⟩ := effect
    exact congrArg State.pc effect
  | jam =>
    obtain rfl := effect
    cases hj
  | rareJam =>
    rcases effect with rfl | rfl
    · cases hj
    · rfl
  | branch taken off => trivial
  | brk => trivial
  | ret => trivial
  | call => trivial
  | jump => trivial
  | jumpIndirect => trivial

end Sys2Proof.Machine
end

section
/-! Which instructions may write D, I, V and S (10_state.md sections 1 to 3). -/

namespace Sys2Proof.Machine

/-- The writers of V (10_state.md R26). -/
def MayWriteV (i : Instr) : Prop :=
  match i with
  | .clv | .plp | .rti | .bitZp _ | .bitAbs _ | .arrImm _ => True
  | .adcImm _ | .adcZp _ | .adcZpx _ | .adcAbs _ | .adcAbx _ | .adcAby _ | .adcIzx _ | .adcIzy _ => True
  | .sbcImm _ | .sbcZp _ | .sbcZpx _ | .sbcAbs _ | .sbcAbx _ | .sbcAby _ | .sbcIzx _ | .sbcIzy _ => True
  | .sbcImmEB _ => True
  | .rraIzx _ | .rraZp _ | .rraAbs _ | .rraIzy _ | .rraZpx _ | .rraAby _ | .rraAbx _ => True
  | .isbIzx _ | .isbZp _ | .isbAbs _ | .isbIzy _ | .isbZpx _ | .isbAby _ | .isbAbx _ => True
  | _ => False

/-- The writers of S (10_state.md R22; 45_undocumented.md R298, R299). -/
def MayWriteS (i : Instr) : Prop :=
  match i with
  | .txs | .pha | .php | .pla | .plp | .rts | .rti | .brk => True
  | .jsr _ | .shsAby _ | .lasAby _ => True
  | _ => False

/-- Of D, I, V and S, the second state differs from the first at most in those the spec lets the instruction write. -/
structure ListedWrites (i : Instr) (s t : State) : Prop where
  onD : t.P.d ≠ s.P.d → i = .sed ∨ i = .cld ∨ i = .plp ∨ i = .rti
  onI : t.P.i ≠ s.P.i → i = .sei ∨ i = .cli ∨ i = .plp ∨ i = .rti ∨ i = .brk
  onV : t.P.v ≠ s.P.v → MayWriteV i
  onS : t.S ≠ s.S → MayWriteS i

/-- D, I, V and S are all kept. -/
structure KeepsDIVS (s t : State) : Prop where
  d : t.P.d = s.P.d
  i : t.P.i = s.P.i
  v : t.P.v = s.P.v
  s : t.S = s.S

/-- D, I and S are kept. -/
structure KeepsDIS (s t : State) : Prop where
  d : t.P.d = s.P.d
  i : t.P.i = s.P.i
  s : t.S = s.S

/-- The flags D, I and V are kept. -/
structure KeepsDIV (p q : Flags) : Prop where
  d : q.d = p.d
  i : q.i = p.i
  v : q.v = p.v

theorem KeepsDIV.of_eq {p q : Flags} (h : q = p) : KeepsDIV p q := by
  rw [h]
  exact ⟨rfl, rfl, rfl⟩

theorem KeepsDIVS.of_eq {s t : State} (hP : t.P = s.P) (hS : t.S = s.S) : KeepsDIVS s t :=
  ⟨congrArg Flags.d hP, congrArg Flags.i hP, congrArg Flags.v hP, hS⟩

/-- An instruction that writes none of the four keeps to any list. -/
theorem KeepsDIVS.listed {s t : State} (h : KeepsDIVS s t) (i : Instr) : ListedWrites i s t :=
  ⟨fun c => absurd h.d c, fun c => absurd h.i c, fun c => absurd h.v c, fun c => absurd h.s c⟩

theorem KeepsDIS.listed {s t : State} {i : Instr} (h : KeepsDIS s t) (hv : MayWriteV i) : ListedWrites i s t :=
  ⟨fun c => absurd h.d c, fun c => absurd h.i c, fun _ => hv, fun c => absurd h.s c⟩

theorem KeepsDIV.listed {s t : State} {i : Instr} (h : KeepsDIV s.P t.P) (hs : MayWriteS i) : ListedWrites i s t :=
  ⟨fun c => absurd h.d c, fun c => absurd h.i c, fun c => absurd h.v c, fun _ => hs⟩

/-! ## The operations -/

theorem arr_keepsDIS (m : Byte) (s : State) : KeepsDIS s (arr m s) := by
  unfold arr
  split
  · exact ⟨rfl, rfl, rfl⟩
  · exact ⟨rfl, rfl, rfl⟩

theorem push_P (v : Byte) (s : State) : (push v s).P = s.P := memWrite_P (stackAddr s) v s

theorem jsr_P (w : Word) (s : State) : (jsr w s).P = s.P := by
  rw [jsr_eq]
  exact (memWrite_P _ _ _).trans (memWrite_P _ _ (afterReads 2 _ s))

theorem takeException_P (b setI : Bool) (vector : Word) (s : State) :
    (takeException b setI vector s).P = { s.P with i := s.P.i || setI } := by
  rw [takeException_eq]

/-- BRK sets I, whatever overtakes it (41_stack_control.md R170, 60_exceptions.md R323). -/
theorem brkSequence_P (s : State) : (brkSequence s).P = { s.P with i := true } := by
  have sets : (s.P.i || true) = true := Bool.or_true _
  rw [← sets]
  unfold brkSequence
  split
  · exact takeException_P true true _ { s with nmiPending := false }
  · exact takeException_P true true _ s
  · exact takeException_P true true _ s

/-! ## The shapes of the instructions: their bus cycles write none of the four -/

section Shapes

variable {s t : State} {m : MemMode}

/-- The two reads of an implied instruction come before its operation (40_addressing.md R131). -/
theorem implied_next {op : State → State} (h : runImplied op s = .next t) : t = op (afterImplied s) := by
  rw [runImplied_eq, Host.Outcome.next.injEq] at h
  exact h.symm

theorem implied_keeps {op : State → State} (h : runImplied op s = .next t) (hop : ∀ u, KeepsDIVS u (op u)) :
    KeepsDIVS s t := by
  rw [implied_next h]
  exact { hop (afterImplied s) with }

theorem acc_keeps {f : Byte → Flags → Byte × Flags} (h : runAcc f s = .next t)
    (hf : ∀ v p, KeepsDIV p (f v p).2) : KeepsDIVS s t := by
  rw [implied_next (show runImplied (fun u => { u with A := (f u.A u.P).1, P := (f u.A u.P).2 }) s = .next t from h)]
  exact { hf s.A s.P with s := rfl }

theorem imm_next {op : Byte → State → State} {v : Byte} (h : runImm op v s = .next t) :
    t = op v (afterImmediate s) := by
  rw [runImm_eq, Host.Outcome.next.injEq] at h
  exact h.symm

theorem imm_keeps {op : Byte → State → State} {v : Byte} (h : runImm op v s = .next t)
    (hop : ∀ v u, KeepsDIVS u (op v u)) : KeepsDIVS s t := by
  rw [imm_next h]
  exact { hop v (afterImmediate s) with }

theorem imm_keepsDIS {op : Byte → State → State} {v : Byte} (h : runImm op v s = .next t)
    (hop : ∀ v u, KeepsDIS u (op v u)) : KeepsDIS s t := by
  rw [imm_next h]
  exact { hop v (afterImmediate s) with }

theorem read_next {op : Byte → State → State} (h : runRead op m s = .next t) :
    t = op (operandByte m s) (afterRead m s) := by
  rw [runRead_eq, Host.Outcome.next.injEq] at h
  exact h.symm

theorem read_keeps {op : Byte → State → State} (h : runRead op m s = .next t) (hop : ∀ v u, KeepsDIVS u (op v u)) :
    KeepsDIVS s t := by
  rw [read_next h]
  exact { hop (operandByte m s) (afterRead m s) with }

theorem read_keepsDIS {op : Byte → State → State} (h : runRead op m s = .next t) (hop : ∀ v u, KeepsDIS u (op v u)) :
    KeepsDIS s t := by
  rw [read_next h]
  exact { hop (operandByte m s) (afterRead m s) with }

/-- A Read-Modify-Write instruction ends with the operation on the new byte, in a state with S as it was and the flags
of the modification (44_rmw_write.md R259; 45_undocumented.md section 2). -/
theorem rmwThen_next {f : Byte → Flags → Byte × Flags} {after : Byte → State → State}
    (h : runRmwThen f after m s = .next t) (hf : ∀ v p, KeepsDIV p (f v p).2) :
    ∃ v u, t = after v u ∧ KeepsDIVS s u := by
  rw [runRmwThen_eq, Host.Outcome.next.injEq] at h
  exact ⟨_, _, h.symm, { hf (oldByte m s) s.P with s := modified_S m _ s }⟩

theorem rmwThen_keeps {f : Byte → Flags → Byte × Flags} {after : Byte → State → State}
    (h : runRmwThen f after m s = .next t) (hf : ∀ v p, KeepsDIV p (f v p).2)
    (hop : ∀ v u, KeepsDIVS u (after v u)) : KeepsDIVS s t := by
  obtain ⟨v, u, rfl, k⟩ := rmwThen_next h hf
  have last := hop v u
  exact ⟨last.d.trans k.d, last.i.trans k.i, last.v.trans k.v, last.s.trans k.s⟩

theorem rmwThen_keepsDIS {f : Byte → Flags → Byte × Flags} {after : Byte → State → State}
    (h : runRmwThen f after m s = .next t) (hf : ∀ v p, KeepsDIV p (f v p).2)
    (hop : ∀ v u, KeepsDIS u (after v u)) : KeepsDIS s t := by
  obtain ⟨v, u, rfl, k⟩ := rmwThen_next h hf
  have last := hop v u
  exact ⟨last.d.trans k.d, last.i.trans k.i, last.s.trans k.s⟩

theorem rmw_keeps {f : Byte → Flags → Byte × Flags} (h : runRmw f m s = .next t)
    (hf : ∀ v p, KeepsDIV p (f v p).2) : KeepsDIVS s t :=
  rmwThen_keeps (show runRmwThen f (fun _ u => u) m s = .next t from h) hf fun _ _ => .of_eq rfl rfl

theorem storeHigh_keeps {value : State → Byte} (h : runStoreHigh value m s = .next t) : KeepsDIVS s t := by
  rw [runStoreHigh_eq, Host.Outcome.next.injEq] at h
  exact h ▸ .of_eq (storedHigh_P m _ s) (storedHigh_S m _ s)

theorem shs_P (h : runShs m s = .next t) : t.P = s.P := by
  simp only [runShs, writeHighAnd_eq, Host.Outcome.next.injEq] at h
  exact h ▸ storedHigh_P m _ s

end Shapes

/-- The classes that write no register but pc. -/
def Shape.keepsRegisters : Shape → Bool
  | .write _ | .branch _ _ | .jump | .jumpIndirect | .jam | .rareJam => true
  | .implied | .immediate | .read _ | .modify _ | .writeHigh _ _ | .brk | .ret | .push | .pull | .call => false

theorem classEffect_keeps {sh : Shape} {s t : State} (h : ClassEffect sh s t) (hk : sh.keepsRegisters = true) :
    KeepsDIVS s t := by
  cases sh with
  | write m =>
    obtain ⟨v, rfl⟩ := h
    exact .of_eq (stored_P m v s) (stored_S m v s)
  | jam =>
    obtain rfl := h
    exact .of_eq rfl rfl
  | rareJam =>
    rcases h with rfl | rfl
    · exact .of_eq rfl rfl
    · exact .of_eq rfl rfl
  | jump =>
    have h : t = { afterReads 3 [s.pc, s.pc + 1, s.pc + 2] s with pc := t.pc } := h
    rw [h]
    exact .of_eq rfl rfl
  | branch | jumpIndirect =>
    obtain ⟨as, -, h⟩ := h
    rw [h]
    exact .of_eq rfl rfl
  | implied | immediate | read | modify | writeHigh | brk | ret | push | pull | call => cases hk

/-! ## Every instruction -/

/-- An instruction writes of D, I, V and S those listed for it and no other. -/
theorem exec_listedWrites {i : Instr} {s t : State} (h : exec i s = .next t) : ListedWrites i s t := by
  cases i with
  | oraIzx b | nopZp04 b | oraZp b | nopAbs0C w | oraAbs w | oraIzy b | nopZpx14 b | oraZpx b | oraAby w
  | nopAbx1C w | oraAbx w | andIzx b | andZp b | andAbs w | andIzy b | nopZpx34 b | andZpx b | andAby w | nopAbx3C w
  | andAbx w | eorIzx b | nopZp44 b | eorZp b | eorAbs w | eorIzy b | nopZpx54 b | eorZpx b | eorAby w
  | nopAbx5C w | eorAbx w | nopZp64 b | nopZpx74 b | nopAbx7C w | ldaIzx b | laxIzx b | ldyZp b | ldaZp b | ldxZp b
  | laxZp b | ldyAbs w | ldaAbs w | ldxAbs w | laxAbs w | ldaIzy b | laxIzy b | ldyZpx b | ldaZpx b | ldxZpy b
  | laxZpy b | ldaAby w | ldyAbx w | ldaAbx w | ldxAby w | laxAby w | cmpIzx b | cpyZp b | cmpZp b | cpyAbs w
  | cmpAbs w | cmpIzy b | nopZpxD4 b | cmpZpx b | cmpAby w | nopAbxDC w | cmpAbx w | cpxZp b | cpxAbs w | nopZpxF4 b
  | nopAbxFC w =>
    exact (read_keeps h fun _ _ => ⟨rfl, rfl, rfl, rfl⟩).listed _
  | jam02 | bpl off | jam12 | jam22 | bmi off | jam32 | jam42 | jmpAbs w | bvc off | jam52 | jam62 | jmpInd p
  | bvs off | jam72 | staIzx b | nopImm82 v | saxIzx b | styZp b | staZp b | stxZp b | saxZp b | styAbs w | staAbs w
  | stxAbs w | saxAbs w | bcc off | staIzy b | jam92 | styZpx b | staZpx b | stxZpy b | saxZpy b | staAby w
  | staAbx w | bcs off | jamB2 | nopImmC2 v | bne off | jamD2 | nopImmE2 v | beq off | jamF2 =>
    exact (classEffect_keeps (exec_class _ s t h) rfl).listed _
  | sloIzx b | sloZp b | sloAbs w | sloIzy b | sloZpx b | sloAby w | sloAbx w | rlaIzx b | rlaZp b | rlaAbs w
  | rlaIzy b | rlaZpx b | rlaAby w | rlaAbx w | sreIzx b | sreZp b | sreAbs w | sreIzy b | sreZpx b | sreAby w
  | sreAbx w | dcpIzx b | dcpZp b | dcpAbs w | dcpIzy b | dcpZpx b | dcpAby w | dcpAbx w =>
    exact (rmwThen_keeps h (fun _ _ => ⟨rfl, rfl, rfl⟩) fun _ _ => ⟨rfl, rfl, rfl, rfl⟩).listed _
  | aslZp b | aslAbs w | aslZpx b | aslAbx w | rolZp b | rolAbs w | rolZpx b | rolAbx w | lsrZp b | lsrAbs w
  | lsrZpx b | lsrAbx w | decZp b | decAbs w | decZpx b | decAbx w | incZp b | incAbs w | incZpx b | incAbx w =>
    exact (rmw_keeps h fun _ _ => ⟨rfl, rfl, rfl⟩).listed _
  | oraImm v | ancImm0B v | andImm v | ancImm2B v | eorImm v | asrImm v | nopImm80 v | nopImm89 v | aneImm v
  | ldyImm v | ldxImm v | ldaImm v | lxaImm v | cpyImm v | cmpImm v | sbxImm v | cpxImm v =>
    exact (imm_keeps h fun _ _ => ⟨rfl, rfl, rfl, rfl⟩).listed _
  | aslAcc | rolAcc | lsrAcc => exact (acc_keeps h fun _ _ => ⟨rfl, rfl, rfl⟩).listed _
  | clc | sec | dey | txa | tya | tay | tax | tsx | iny | dex | inx =>
    exact (implied_keeps h fun _ => ⟨rfl, rfl, rfl, rfl⟩).listed _
  | nopImp1A | nopImp3A | nopImp5A | nopImp7A | nopImpDA | nop | nopImpFA =>
    exact (implied_keeps (op := fun u => u) h fun _ => .of_eq rfl rfl).listed _
  | bitZp b | bitAbs w | adcIzx b | adcZp b | adcAbs w | adcIzy b | adcZpx b | adcAby w | adcAbx w | sbcIzx b
  | sbcZp b | sbcAbs w | sbcIzy b | sbcZpx b | sbcAby w | sbcAbx w =>
    exact (read_keepsDIS h fun _ _ => ⟨rfl, rfl, rfl⟩).listed trivial
  | rraIzx b | rraZp b | rraAbs w | rraIzy b | rraZpx b | rraAby w | rraAbx w =>
    exact (rmwThen_keepsDIS (ror_class h) (fun _ _ => ⟨rfl, rfl, rfl⟩) fun _ _ => ⟨rfl, rfl, rfl⟩).listed trivial
  | rorZp b | rorAbs w | rorZpx b | rorAbx w =>
    exact (rmw_keeps (ror_class h) fun _ _ => ⟨rfl, rfl, rfl⟩).listed _
  | adcImm v | sbcImm v | sbcImmEB v =>
    exact (imm_keepsDIS h fun _ _ => ⟨rfl, rfl, rfl⟩).listed trivial
  | rorAcc => exact (acc_keeps (ror_class h) fun _ _ => ⟨rfl, rfl, rfl⟩).listed _
  | arrImm v => exact (imm_keepsDIS (ror_class h) arr_keepsDIS).listed trivial
  | isbIzx b | isbZp b | isbAbs w | isbIzy b | isbZpx b | isbAby w | isbAbx w =>
    exact (rmwThen_keepsDIS h (fun _ _ => ⟨rfl, rfl, rfl⟩) fun _ _ => ⟨rfl, rfl, rfl⟩).listed trivial
  | sed | cld =>
    rw [implied_next h]
    exact ⟨fun _ => by simp, fun c => absurd rfl c, fun c => absurd rfl c, fun c => absurd rfl c⟩
  | sei | cli =>
    rw [implied_next h]
    exact ⟨fun c => absurd rfl c, fun _ => by simp, fun c => absurd rfl c, fun c => absurd rfl c⟩
  | clv =>
    rw [implied_next h]
    exact KeepsDIS.listed ⟨rfl, rfl, rfl⟩ trivial
  | txs | pla | rts =>
    rw [implied_next h]
    exact KeepsDIV.listed ⟨rfl, rfl, rfl⟩ trivial
  | pha | php =>
    rw [implied_next h]
    exact KeepsDIV.listed (.of_eq (push_P _ _)) trivial
  | lasAby w =>
    rw [read_next h]
    exact KeepsDIV.listed ⟨rfl, rfl, rfl⟩ trivial
  | shaIzy b | shaAby w => exact (storeHigh_keeps (value := fun u => u.A &&& u.X) h).listed _
  | shyAbx w | shxAby w => exact (storeHigh_keeps h).listed _
  | shsAby w => exact (KeepsDIV.of_eq (shs_P h)).listed trivial
  | jsr w =>
    rw [← Host.Outcome.next.inj h]
    exact (KeepsDIV.of_eq (jsr_P w s)).listed trivial
  | plp | rti => exact ⟨fun _ => by simp, fun _ => by simp, fun _ => trivial, fun _ => trivial⟩
  | brk =>
    have hP : t.P = { s.P with i := true } := Host.Outcome.next.inj h ▸ brkSequence_P (skip (skip s))
    exact ⟨fun c => absurd (congrArg Flags.d hP) c, fun _ => by simp, fun c => absurd (congrArg Flags.v hP) c,
      fun _ => trivial⟩

/-! ## Interrupts and reset -/

theorem nmiSequence_d (s : State) : (nmiSequence s).P.d = s.P.d := by
  unfold nmiSequence
  rw [takeException_P]
  rfl

theorem irqSequence_d (s : State) : (irqSequence s).P.d = s.P.d := by
  unfold irqSequence
  rw [takeException_P]
  rfl

theorem resetSequence_d (s : State) : (resetSequence s).P.d = s.P.d := by
  rw [resetSequence_eq]
  rfl

/-- Settles O14: every instruction keeps to the lists, and taking an interrupt or a reset writes no flag but I. -/
theorem onlyTheseWriteFlagsAndStackPointer : Obligations.OnlyTheseWriteFlagsAndStackPointer :=
  ⟨⟨fun _ _ _ h => ⟨(exec_listedWrites h).onD, (exec_listedWrites h).onI, (exec_listedWrites h).onV⟩,
    fun s => ⟨nmiSequence_d s, irqSequence_d s, resetSequence_d s⟩⟩, fun _ _ _ h => (exec_listedWrites h).onS⟩

end Sys2Proof.Machine
end

section
/-! The invariant of the state (20_memory.md sections 1 and 7): reset meets it, every step keeps it. -/

namespace Sys2Proof.Machine

/-- A write cycle writes the RAM at its address, or leaves it alone. -/
theorem memWrite_ram (a : Word) (v : Byte) (s : State) :
    ∃ w, (memWrite a v s).ram = s.ram ∨ (memWrite a v s).ram = s.ram.write a.toNat w := by
  unfold memWrite
  split
  · exact ⟨_, busWrite_ram _ a _⟩
  · split
    · exact ⟨_, busWrite_ram _ a _⟩
    · exact ⟨v, busWrite_ram s a v⟩

/-- A write cycle writes the colour RAM at its address, or leaves it alone. -/
theorem memWrite_colorRam (a : Word) (v : Byte) (s : State) :
    ∃ w, (memWrite a v s).colorRam = s.colorRam ∨ (memWrite a v s).colorRam = s.colorRam.write a.toNat w := by
  unfold memWrite
  split
  · exact ⟨_, busWrite_colorRam _ a _⟩
  · split
    · exact ⟨_, busWrite_colorRam _ a _⟩
    · exact ⟨_, busWrite_colorRam s a v⟩

/-- A write of 0000 on a part with the port: DDR keeps the implemented bits of the byte (R80, R81). -/
theorem memWrite_ddr_port (v : Byte) {s : State} (hp : s.params.hasIoPort = true) :
    (memWrite 0x0000 v s).ddr = v &&& portMask s.params := by
  have h : memWrite 0x0000 v s = logBus (.write 0x0000 (Config.busResidue s.tick))
      (busWrite { s with ddr := v &&& portMask s.params } 0x0000 (Config.busResidue s.tick)) := by
    simp [memWrite, hp]
  rw [h, logBus_ddr, busWrite_ddr]

/-- A write of 0001 on a part with the port: the latch keeps the implemented bits of the byte (R81, R82). -/
theorem memWrite_prLatch_port (v : Byte) {s : State} (hp : s.params.hasIoPort = true) :
    (memWrite 0x0001 v s).prLatch = v &&& portMask s.params := by
  have h : memWrite 0x0001 v s = logBus (.write 0x0001 (Config.busResidue s.tick))
      (busWrite { s with prLatch := v &&& portMask s.params } 0x0001 (Config.busResidue s.tick)) := by
    simp [memWrite, hp]
  rw [h, logBus_prLatch, busWrite_prLatch]

/-- A memory in canonical form stays so after at most one write at an address of the processor. -/
theorem Memory.wf_of_written {m m' : Memory} {a : Word} (h : m.wf = true)
    (hm : ∃ w, m' = m ∨ m' = m.write a.toNat w) : m'.wf = true := by
  obtain ⟨w, rfl | rfl⟩ := hm
  · exact h
  · exact Memory.wf_write w a.isLt h

/-- A port register holds implemented bits only, and nothing on a part without the port (R80, R81). -/
def PortBits (p : Params) (r : Byte) : Prop := r &&& ~~~portMask p = 0 ∧ (p.hasIoPort = false → r = 0)

/-- The invariant by its parts: memories, ROMs, the two port registers. -/
theorem State.inv_iff (s : State) : s.Inv ↔
    s.ram.wf = true ∧ s.colorRam.wf = true ∧
    (s.roms.kernal.wf = true ∧ s.roms.basic.wf = true ∧ s.roms.character.wf = true ∧ s.roms.romL.wf = true ∧
      s.roms.romH.wf = true) ∧
    PortBits s.params s.ddr ∧ PortBits s.params s.prLatch := by
  unfold State.Inv PortBits
  tauto

theorem PortBits.zero (p : Params) : PortBits p 0 := ⟨BitVec.zero_and, fun _ => rfl⟩

/-- The implemented bits of a byte, as a port register takes them. -/
theorem PortBits.masked {p : Params} (hp : p.hasIoPort = true) (v : Byte) : PortBits p (v &&& portMask p) :=
  ⟨by rw [BitVec.and_assoc, BitVec.and_not_self]; exact BitVec.and_zero, fun h => nomatch h.symm.trans hp⟩

theorem memWrite_ddr_portBits {s : State} (a : Word) (v : Byte) (h : PortBits s.params s.ddr) :
    PortBits s.params (memWrite a v s).ddr := by
  by_cases hp : s.params.hasIoPort = true ∧ a = 0x0000
  · obtain ⟨hport, rfl⟩ := hp
    rw [memWrite_ddr_port v hport]
    exact .masked hport v
  · rwa [memWrite_ddr v fun hport ha => hp ⟨hport, ha⟩]

theorem memWrite_prLatch_portBits {s : State} (a : Word) (v : Byte) (h : PortBits s.params s.prLatch) :
    PortBits s.params (memWrite a v s).prLatch := by
  by_cases hp : s.params.hasIoPort = true ∧ a = 0x0001
  · obtain ⟨hport, rfl⟩ := hp
    rw [memWrite_prLatch_port v hport]
    exact .masked hport v
  · rwa [memWrite_prLatch v fun hport ha => hp ⟨hport, ha⟩]

/-- A write cycle keeps the invariant, wherever it writes. -/
theorem memWrite_keeps_inv (a : Word) (v : Byte) {s : State} (h : s.Inv) : (memWrite a v s).Inv := by
  rw [State.inv_iff] at h ⊢
  obtain ⟨hram, hcolor, hroms, hddr, hlatch⟩ := h
  rw [memWrite_params, memWrite_roms]
  exact ⟨Memory.wf_of_written hram (memWrite_ram a v s), Memory.wf_of_written hcolor (memWrite_colorRam a v s), hroms,
    memWrite_ddr_portBits a v hddr, memWrite_prLatch_portBits a v hlatch⟩

/-- So does every trail of bus cycles: reads and changes of registers touch nothing of it. -/
theorem BusTrail.keeps_inv {s t : State} {ws : List Word} (h : BusTrail s ws t) (hs : s.Inv) : t.Inv := by
  induction h with
  | start => exact hs
  | read a _ ih => exact ih
  | write a v _ ih => exact memWrite_keeps_inv a v ih
  | registers _ hu ih =>
    rw [hu]
    exact ih

theorem boundary_keeps_inv {s : State} (h : s.Inv) : (boundary s).Inv := by
  unfold boundary
  split
  · exact h
  · exact h

/-- The latch's free value after a reset is cut to the implemented bits, to nothing without the port (R354; log 12). -/
theorem resetStart_keeps_inv {s : State} (h : s.Inv) : (resetStart s).Inv := by
  rw [State.inv_iff] at h ⊢
  obtain ⟨hram, hcolor, hroms, -, -⟩ := h
  refine ⟨hram, hcolor, hroms, .zero _, ?_⟩
  show PortBits s.params (Config.resetLatch s.tick &&& if s.params.hasIoPort then portMask s.params else 0)
  split
  next hp => exact .masked hp _
  next =>
    have cleared : Config.resetLatch s.tick &&& 0 = 0 := BitVec.and_zero
    rw [cleared]
    exact .zero _

/-- Settles O9: a step is a trail of bus cycles from the boundary or from the start of a reset sequence, or a cycle of a
jammed processor, which touches neither memory nor the port. -/
theorem everyStepKeepsTheInvariant : Obligations.EveryStepKeepsTheInvariant := by
  intro s t hs h
  have hb : (boundary s).Inv := boundary_keeps_inv hs
  rcases step_trail h with ⟨-, trail⟩ | ⟨-, ⟨-, rfl⟩ | rfl | ⟨ws, trail⟩⟩
  · exact trail.keeps_inv (resetStart_keeps_inv hb)
  · exact hb
  · exact hb
  · exact trail.keeps_inv hb

/-- Settles O8: the memories list nothing and the port registers are zero; the part is the 6502 of log 4. -/
theorem resetStateMeetsTheInvariant : Obligations.ResetStateMeetsTheInvariant := by
  refine ⟨(State.inv_iff _).mpr ?_, by decide⟩
  exact ⟨Memory.wf_nil, Memory.wf_nil, ⟨Memory.wf_nil, Memory.wf_nil, Memory.wf_nil, Memory.wf_nil, Memory.wf_nil⟩,
    .zero _, .zero _⟩

end Sys2Proof.Machine
end

section
/-! The on-chip port and the memory map of the Commodore 64 (20_memory.md sections 7 and 8). -/

namespace Sys2Proof.Machine

/-! ## The port registers -/

/-- The implemented bits are those below PORT_LINES (R81). -/
theorem portMask_getLsbD {p : Params} {i : Nat} (hi : i < p.portLines) (h8 : i < 8) : (portMask p).getLsbD i = true := by
  simp [portMask, BitVec.getLsbD_ofNat, Nat.testBit_two_pow_sub_one, hi, h8]

/-- An implemented bit of a port register is read as it is (R81). -/
theorem withOpenBits_getLsbD (v : Byte) {s : State} {i : Nat} (hi : i < s.params.portLines) (h8 : i < 8) :
    (withOpenBits v s).getLsbD i = v.getLsbD i := by
  simp [withOpenBits, portMask_getLsbD hi h8]

/-- An output line has the latch's level, an input line the level from outside (R82). -/
theorem lineLevels_getLsbD (s : State) {i : Nat} (h8 : i < 8) :
    (lineLevels s).getLsbD i = if s.ddr.getLsbD i then s.prLatch.getLsbD i else (outsideLevels s).getLsbD i := by
  rw [lineLevels, BitVec.getLsbD_or, BitVec.getLsbD_and, BitVec.getLsbD_and, BitVec.getLsbD_not]
  cases s.ddr.getLsbD i <;> simp [h8]

theorem masked_getLsbD (v : Byte) {p : Params} {i : Nat} (hi : i < p.portLines) (h8 : i < 8) :
    (v &&& portMask p).getLsbD i = v.getLsbD i := by
  rw [BitVec.getLsbD_and, portMask_getLsbD hi h8, Bool.and_true]

theorem peek_ddr {s : State} (hp : s.params.hasIoPort = true) : peek 0x0000 s = readDdr s := by
  simp [peek, hp]

theorem peek_pr {s : State} (hp : s.params.hasIoPort = true) : peek 0x0001 s = readPr s := by
  simp [peek, hp]

/-- A write to a port register puts the bus residue on the platform: the RAM beneath takes it (R80; log 30). -/
theorem memWrite_port_ram_flat {s : State} {a : Word} (v : Byte) (hf : s.params.platform = .flatRam)
    (hp : isPortRegister s.params a = true) : (memWrite a v s).ram.read a.toNat = Config.busResidue s.tick := by
  obtain ⟨hport, rfl | rfl⟩ : s.params.hasIoPort = true ∧ (a = 0 ∨ a = 1) := by simpa [isPortRegister] using hp
  · simp [memWrite, hport, busWrite, hf]
  · simp [memWrite, hport, busWrite, hf]

/-- Settles O55: bit by bit, through the implemented bits of the two registers. -/
theorem portReadsAndWrites : Obligations.PortReadsAndWrites := by
  intro s v i hp hi hlines
  have h8 : i < 8 := Nat.lt_of_lt_of_le hi hlines
  have isPort {a : Word} (ha : a = 0 ∨ a = 1) : isPortRegister s.params a = true := by
    simpa [isPortRegister, hp] using ha
  refine ⟨?_, ?_, ?_, memWrite_prLatch v fun _ => by decide, ?_, memWrite_ddr v fun _ => by decide, fun hf => ⟨?_, ?_, ?_⟩⟩
  · rw [peek_ddr hp, readDdr, withOpenBits_getLsbD _ hi h8]
  · rw [peek_pr hp, readPr, withOpenBits_getLsbD _ hi h8, lineLevels_getLsbD s h8]
  · rw [memWrite_ddr_port v hp, masked_getLsbD v hi h8]
  · rw [memWrite_prLatch_port v hp, masked_getLsbD v hi h8]
  · rw [outsideLevels, hf]
  · exact memWrite_port_ram_flat v hf (isPort (.inl rfl))
  · exact memWrite_port_ram_flat v hf (isPort (.inr rfl))

/-! ## The table of the memory configurations -/

/-- The ranges of addresses of the table (R87). -/
def tableRanges : List (Nat × Nat) :=
  [(0xE000, 0xFFFF), (0xD000, 0xDFFF), (0xC000, 0xCFFF), (0xA000, 0xBFFF), (0x8000, 0x9FFF), (0x4000, 0x7FFF),
    (0x1000, 0x3FFF), (0x0000, 0x0FFF)]

/-- An address enters the table by the six bounds it is compared with, and by nothing else. -/
theorem regionAt_congr (c : BankConfig) (charen : Bool) {a b : Nat} (hE : 0xE000 ≤ a ↔ 0xE000 ≤ b)
    (hD : 0xD000 ≤ a ↔ 0xD000 ≤ b) (hC : 0xC000 ≤ a ↔ 0xC000 ≤ b) (hA : 0xA000 ≤ a ↔ 0xA000 ≤ b)
    (h8 : 0x8000 ≤ a ↔ 0x8000 ≤ b) (h1 : 0x1000 ≤ a ↔ 0x1000 ≤ b) : regionAt c charen a = regionAt c charen b := by
  simp only [regionAt, hE, hD, hC, hA, h8, h1]

/-- Inside a range of the table one entry answers: the one at its lowest address. -/
theorem regionAt_of_range (c : BankConfig) (charen : Bool) {r : Nat × Nat} (hr : r ∈ tableRanges) {a : Nat}
    (hlo : r.1 ≤ a) (hhi : a ≤ r.2) : regionAt c charen a = regionAt c charen r.1 := by
  simp only [tableRanges, List.mem_cons, List.not_mem_nil, or_false] at hr
  rcases hr with rfl | rfl | rfl | rfl | rfl | rfl | rfl | rfl <;> dsimp only at hlo hhi ⊢ <;>
    exact regionAt_congr c charen (by omega) (by omega) (by omega) (by omega) (by omega) (by omega)

/-- A column of the table is known by its entries at the lowest addresses of the ranges. -/
theorem regionAt_of_column {c : BankConfig} {charen : Bool} {entries : List Region}
    (h : tableRanges.map (fun r => regionAt c charen r.1) = entries) :
    ∀ e ∈ tableRanges.zip entries, ∀ a : Word, e.1.1 ≤ a.toNat → a.toNat ≤ e.1.2 →
      regionAt c charen a.toNat = e.2 := by
  subst h
  have pairs : tableRanges.zip (tableRanges.map fun r => regionAt c charen r.1) =
      tableRanges.map fun r => (r, regionAt c charen r.1) := rfl
  intro e he a hlo hhi
  rw [pairs, List.mem_map] at he
  obtain ⟨r, hr, rfl⟩ := he
  exact regionAt_of_range c charen hr hlo hhi

/-- Settles O56: each column is evaluated at the lowest addresses of its ranges. -/
theorem commodoreMemoryTable : Obligations.CommodoreMemoryTable := by
  intro charen x y ranges column ioC ioRam
  have entries {c : BankConfig} {es : List Region}
      (h : tableRanges.map (fun r => regionAt c charen r.1) = es) : column c es := regionAt_of_column h
  refine ⟨entries ?c1111, entries ?c101x, entries ?c1000, entries ?c011x, entries ?c001x, entries ?c0000,
    entries ?c1110, entries ?c0100, entries ?c1100, entries ?cxx01⟩
  case c1111 | c1000 | c0000 | c1110 | c0100 | c1100 => rfl
  case c101x | c011x | c001x => cases x <;> rfl
  case cxx01 => cases x <;> cases y <;> rfl

end Sys2Proof.Machine
end

section
/-! What a write cycle does, and a read then obtains, on plain RAM and on the Commodore 64 (20_memory.md sections 5, 7
and 8). -/

namespace Sys2Proof.Machine

/-! ## Where the entries of the table lie -/

/-- Below 1000 the internal RAM answers in every configuration (R87). -/
theorem regionAt_low (c : BankConfig) (charen : Bool) {a : Nat} (ha : a < 0x1000) : regionAt c charen a = .ram := by
  have lowest : ((0x0000, 0x0FFF) : Nat × Nat) ∈ tableRanges := by decide
  exact regionAt_of_range c charen lowest (Nat.zero_le a) (Nat.le_of_lt_succ ha)

/-- The ranges of the table cover the 64 KB. -/
theorem exists_tableRange (a : Word) : ∃ r ∈ tableRanges, r.1 ≤ a.toNat ∧ a.toNat ≤ r.2 := by
  have := a.isLt
  simp only [tableRanges, List.exists_mem_cons_iff, List.not_mem_nil, false_and, exists_false, or_false]
  omega

/-- In the Ultimax configuration the internal RAM answers nowhere else, nor does a ROM of the machine (R87, R89). -/
theorem regionAt_ultimax (charen : Bool) {a : Word} (ha : 0x1000 ≤ a.toNat) :
    regionAt .cxx01 charen a.toNat ∈ [.romL, .romH, .io, .unconnected] := by
  have above : ∀ r ∈ tableRanges, 0x1000 ≤ r.2 → regionAt .cxx01 charen r.1 ∈ [.romL, .romH, .io, .unconnected] := by
    cases charen <;> decide
  obtain ⟨r, hr, hlo, hhi⟩ := exists_tableRange a
  rw [regionAt_of_range .cxx01 charen hr hlo hhi]
  exact above r hr (Nat.le_trans ha hhi)

/-- The port registers lie where the internal RAM does, so no other entry of the table meets them (R80, R87). -/
theorem isPortRegister_of_region_ne_ram {s : State} {a : Word} (h : currentRegion s a ≠ .ram) :
    isPortRegister s.params a = false := by
  rw [isPortRegister_eq_false_iff]
  rintro ⟨-, rfl | rfl⟩
  · exact h (regionAt_low _ _ (by decide))
  · exact h (regionAt_low _ _ (by decide))

/-! ## The memory map reads the port and the lines, and nothing that a write away from the port changes -/

theorem currentRegion_congr {s t : State} (hp : t.params = s.params) (hd : t.ddr = s.ddr) (hl : t.prLatch = s.prLatch)
    (hi : t.portIn = s.portIn) (he : t.exrom = s.exrom) (hg : t.game = s.game) (a : Word) :
    currentRegion t a = currentRegion s a := by
  simp only [currentRegion, currentBank, lineLevels, outsideLevels, hp, hd, hl, hi, he, hg]

/-- Away from the port a write changes neither port register (R80, R82). -/
theorem memWrite_port_of_not_port {a : Word} {s : State} (v : Byte) (hp : isPortRegister s.params a = false) :
    (memWrite a v s).ddr = s.ddr ∧ (memWrite a v s).prLatch = s.prLatch := by
  rw [isPortRegister_eq_false_iff] at hp
  exact ⟨memWrite_ddr v fun h h0 => hp ⟨h, .inl h0⟩, memWrite_prLatch v fun h h1 => hp ⟨h, .inr h1⟩⟩

/-- Away from the port a write leaves the memory map as it is (R83, R86). -/
theorem currentRegion_memWrite {a : Word} {s : State} (v : Byte) (hp : isPortRegister s.params a = false) (x : Word) :
    currentRegion (memWrite a v s) x = currentRegion s x := by
  obtain ⟨hddr, hlatch⟩ := memWrite_port_of_not_port v hp
  have env := memWrite_sameEnvironment a v s
  exact currentRegion_congr env.params hddr hlatch env.portIn env.exrom env.game x

/-! ## Away from the port -/

theorem memWrite_accesses_of_not_port {a : Word} {s : State} (v : Byte) (hp : isPortRegister s.params a = false) :
    (memWrite a v s).accesses = s.accesses ++ [.write a v] := by
  simp [hp]

/-- On plain RAM a read after a write obtains the byte written, or what stood at another address (R60). -/
theorem peek_memWrite_flat {s : State} {a x : Word} (v : Byte) (hf : s.params.platform = .flatRam)
    (ha : isPortRegister s.params a = false) (hx : isPortRegister s.params x = false) :
    peek x (memWrite a v s) = if x = a then v else peek x s := by
  rw [memWrite_flat a v s hf ha, peek_flat x s hf hx,
    peek_flat x (logBus (.write a v) (writeRam s a v)) hf hx, logBus_ram, writeRam_ram]
  split
  next h => rw [h, Memory.read_write_self]
  next h => exact Memory.read_write_of_ne _ v fun e => h (BitVec.eq_of_toNat_eq e)

section Commodore64

variable {s : State} {a : Word} (v : Byte)

theorem peek_c64 (hc : s.params.platform = .commodore64) (ha : isPortRegister s.params a = false) :
    peek a s = c64Read s a := by
  rw [peek_of_not_port a s ha, busRead, hc]

theorem memWrite_c64 (hc : s.params.platform = .commodore64) (ha : isPortRegister s.params a = false) :
    memWrite a v s = logBus (.write a v) (c64Write s a v) := by
  rw [memWrite_of_not_port a v s ha, busWrite, hc]

/-- A write where the internal RAM answers (R87). -/
theorem memWrite_c64_ram (hc : s.params.platform = .commodore64) (ha : isPortRegister s.params a = false)
    (hr : currentRegion s a = .ram) : memWrite a v s = logBus (.write a v) (writeRam s a v) := by
  rw [memWrite_c64 v hc ha, c64Write, hr]

end Commodore64

/-- Settles O34: away from the port a write is one of the RAM, and the memory map is as it was. -/
theorem aWriteReachesOneByte : Obligations.AWriteReachesOneByte := by
  intro s a v hport
  have ha : isPortRegister s.params a = false := (isPortRegister_eq_false_iff _ _).mpr hport
  obtain ⟨hddr, hlatch⟩ := memWrite_port_of_not_port v ha
  refine ⟨memWrite_accesses_of_not_port v ha, hddr, hlatch, fun hf => ⟨?_, fun x hne hx => ?_⟩,
    fun hc hr => ⟨?_, fun x hne => ?_⟩⟩
  · rw [peek_memWrite_flat v hf ha ha, if_pos rfl]
  · rw [peek_memWrite_flat v hf ha ((isPortRegister_eq_false_iff _ _).mpr hx), if_neg hne]
  · have after : currentRegion (memWrite a v s) a = .ram := (currentRegion_memWrite v ha a).trans hr
    have answers : peek a (memWrite a v s) = (memWrite a v s).ram.read a.toNat := by
      rw [peek_c64 (by rwa [memWrite_params]) (by rwa [memWrite_params]), c64Read, after]
    rw [answers, memWrite_c64_ram v hc ha hr, logBus_ram, writeRam_ram, Memory.read_write_self]
  · exact memWrite_ram_read_of_ne a v s fun e => hne (BitVec.eq_of_toNat_eq e)

/-! ## Writes through a ROM -/

/-- One of the five ROMs answers at the address (R88). -/
def RomVisible (s : State) (a : Word) : Prop :=
  currentRegion s a = .kernal ∨ currentRegion s a = .basic ∨ currentRegion s a = .character ∨
    currentRegion s a = .romL ∨ currentRegion s a = .romH

theorem RomVisible.region_ne_ram {s : State} {a : Word} (h : RomVisible s a) : currentRegion s a ≠ .ram := by
  rcases h with h | h | h | h | h <;> rw [h] <;> decide

/-- Where a ROM is visible outside the Ultimax configuration, a write is one of the RAM beneath (R89). -/
theorem RomVisible.c64Write_eq {s : State} {a : Word} (h : RomVisible s a) (hb : currentBank s ≠ .cxx01) (v : Byte) :
    c64Write s a v = writeRam s a v := by
  rcases h with h | h | h | h | h <;> simp only [c64Write, h, hb, if_false]

/-- Where a ROM is visible, what a read obtains is a matter of the map and of the ROMs (R88). -/
theorem RomVisible.c64Read_congr {s t : State} {a : Word} (h : RomVisible s a)
    (hregion : currentRegion t a = currentRegion s a) (hroms : t.roms = s.roms) : c64Read t a = c64Read s a := by
  rcases h with h | h | h | h | h <;> simp only [c64Read, hregion, h, hroms]

theorem ioWrite_ram (s : State) (a : Word) (v : Byte) : (ioWrite s a v).ram = s.ram := by
  unfold ioWrite
  split <;> rfl

/-- In the Ultimax configuration a write above 0FFF leaves the internal RAM alone (R89). -/
theorem c64Write_ultimax_ram {s : State} {a : Word} (hb : currentBank s = .cxx01)
    (hr : currentRegion s a ∈ [.romL, .romH, .io, .unconnected]) (v : Byte) : (c64Write s a v).ram = s.ram := by
  simp only [List.mem_cons, List.not_mem_nil, or_false] at hr
  rcases hr with hr | hr | hr | hr
  · simp only [c64Write, hr, hb, if_true]
  · simp only [c64Write, hr, hb, if_true]
  · simp only [c64Write, hr, ioWrite_ram]
  · simp only [c64Write, hr]

/-- Settles O57: through a visible ROM a write is one of the RAM beneath, and in the Ultimax configuration none of the
entries above 0FFF hands a write on to the RAM. -/
theorem writesGoThroughTheRom : Obligations.WritesGoThroughTheRom := by
  intro s a v hc
  refine ⟨fun hb hr => ?_, fun hb ha => ?_⟩
  · have rom : RomVisible s a := hr
    have hp : isPortRegister s.params a = false := isPortRegister_of_region_ne_ram rom.region_ne_ram
    refine ⟨?_, memWrite_roms a v s, ?_⟩
    · rw [memWrite_c64 v hc hp, rom.c64Write_eq hb, logBus_ram, writeRam_ram, Memory.read_write_self]
    · rw [peek_c64 hc hp, peek_c64 (by rwa [memWrite_params]) (by rwa [memWrite_params])]
      exact rom.c64Read_congr (currentRegion_memWrite v hp a) (memWrite_roms a v s)
  · have entry : currentRegion s a ∈ [.romL, .romH, .io, .unconnected] := by
      rw [currentRegion, hb]
      exact regionAt_ultimax _ ha
    have ne_ram : currentRegion s a ≠ .ram := fun e => by
      rw [e] at entry
      exact absurd entry (by decide)
    rw [memWrite_c64 v hc (isPortRegister_of_region_ne_ram ne_ram), logBus_ram, c64Write_ultimax_ram hb entry]

end Sys2Proof.Machine
end

section
/-! The lines that select the memory of the Commodore 64, and its I/O area (20_memory.md sections 7 and 8). -/

namespace Sys2Proof.Machine

/-! ## The port lines -/

/-- The pull-ups hold the three memory-management lines high from outside (R84, R86). -/
theorem outsideLevels_c64 {s : State} (hc : s.params.platform = .commodore64) {i : Nat} (hi : i < 3) :
    (outsideLevels s).getLsbD i = true := by
  have pullUps : ∀ j < 3, (0x07 : Byte).getLsbD j = true := by decide
  rw [outsideLevels, hc]
  simp only [BitVec.getLsbD_or, pullUps i hi, Bool.or_true]

/-- A memory-management line is the latch's bit on an output and high on an input (R82, R84). -/
theorem lineLevels_c64 {s : State} (hc : s.params.platform = .commodore64) {i : Nat} (hi : i < 3) :
    (lineLevels s).getLsbD i = if s.ddr.getLsbD i then s.prLatch.getLsbD i else true := by
  rw [lineLevels_getLsbD s (by omega), outsideLevels_c64 hc hi]

/-- After a write of 0001 an output line has the level of the byte's bit (R80, R82). -/
theorem lineLevels_memWrite_pr {s : State} (v : Byte) (hp : s.params.hasIoPort = true) {i : Nat}
    (hi : i < s.params.portLines) (h8 : i < 8) (hout : s.ddr.getLsbD i = true) :
    (lineLevels (memWrite 0x0001 v s)).getLsbD i = v.getLsbD i := by
  rw [lineLevels_getLsbD _ h8, memWrite_ddr v fun _ => by decide, if_pos hout, memWrite_prLatch_port v hp,
    masked_getLsbD v hi h8]

/-- Settles O58: the lines are spelled out in the selection of the column and of the entry; a write of 0001 gives the
three output lines the bits of the byte. -/
theorem portLinesSelectTheMemory : Obligations.PortLinesSelectTheMemory := by
  intro s hc line
  have lines {i : Nat} (hi : i < 3) : (lineLevels s).getLsbD i = line i := lineLevels_c64 hc hi
  refine ⟨?_, fun a => ?_, fun a ha => ?_, fun v hp hlines h0 h1 h2 => ?_⟩
  · rw [currentBank, lines (by omega), lines (by omega)]
  · rw [currentRegion, lines (by omega)]
  · rw [peek_c64 hc ((isPortRegister_eq_false_iff _ _).mpr ha)]
    rfl
  · have env := memWrite_sameEnvironment 0x0001 v s
    have driven {i : Nat} (hi : i < 3) (hout : s.ddr.getLsbD i = true) :
        (lineLevels (memWrite 0x0001 v s)).getLsbD i = v.getLsbD i :=
      lineLevels_memWrite_pr v hp (by omega) (by omega) hout
    refine ⟨?_, fun a => ?_⟩
    · rw [currentBank, driven (by omega) h0, driven (by omega) h1, env.game, env.exrom]
    · rw [currentRegion, driven (by omega) h2]

/-! ## The I/O area -/

section IoArea

variable {s : State} {a : Word}

theorem isPortRegister_of_io (hr : currentRegion s a = .io) : isPortRegister s.params a = false :=
  isPortRegister_of_region_ne_ram fun e => nomatch hr.symm.trans e

/-- A read of the I/O area asks what lies there (R90). -/
theorem peek_io (hc : s.params.platform = .commodore64) (hr : currentRegion s a = .io) : peek a s = ioRead s a.toNat := by
  rw [peek_c64 hc (isPortRegister_of_io hr), c64Read, hr]

/-- A write to the I/O area goes to what lies there (R90). -/
theorem memWrite_io (v : Byte) (hc : s.params.platform = .commodore64) (hr : currentRegion s a = .io) :
    memWrite a v s = logBus (.write a v) (ioWrite s a v) := by
  rw [memWrite_c64 v hc (isPortRegister_of_io hr), c64Write, hr]

/-- A read of a chip's register acts on the chip (R60, R90). -/
theorem readEffect_chip {which : IoChip} {reg : Nat} (hc : s.params.platform = .commodore64)
    (hr : currentRegion s a = .io) (hplace : ioPlace a.toNat = .chip which reg) :
    readEffect a s = Config.deviceAfterRead (.chip which reg) s.device s.tick := by
  simp only [readEffect, isPortRegister_of_io hr, Bool.false_eq_true, if_false, busReadEffect, readsDevice, hc,
    c64ReadsDevice, hr, hplace]

theorem ioPlace_color {n : Nat} (hlo : 0xD800 ≤ n) (hhi : n ≤ 0xDBFF) : ioPlace n = .color := by
  rw [ioPlace, if_neg (by omega), if_neg (by omega), if_pos (by omega)]

theorem ioPlace_expansion {n : Nat} (hlo : 0xDE00 ≤ n) : ioPlace n = .expansion := by
  rw [ioPlace, if_neg (by omega), if_neg (by omega), if_neg (by omega), if_neg (by omega), if_neg (by omega)]

/-- The ranges of the chips, each with the count of registers after which they repeat (R90). -/
def chipRanges : List (Nat × Nat × IoChip × Nat) :=
  [(0xD000, 0xD3FF, .vic, 0x40), (0xD400, 0xD7FF, .sid, 0x20), (0xDC00, 0xDCFF, .cia1, 0x10),
    (0xDD00, 0xDDFF, .cia2, 0x10)]

theorem ioPlace_chip {r : Nat × Nat × IoChip × Nat} (hr : r ∈ chipRanges) {n : Nat} (hlo : r.1 ≤ n) (hhi : n ≤ r.2.1) :
    ioPlace n = .chip r.2.2.1 (n % r.2.2.2) := by
  simp only [chipRanges, List.mem_cons, List.not_mem_nil, or_false] at hr
  rcases hr with rfl | rfl | rfl | rfl <;> dsimp only at hlo hhi ⊢ <;> unfold ioPlace
  · rw [if_pos (by omega)]
  · rw [if_neg (by omega), if_pos (by omega)]
  · rw [if_neg (by omega), if_neg (by omega), if_neg (by omega), if_pos (by omega)]
  · rw [if_neg (by omega), if_neg (by omega), if_neg (by omega), if_neg (by omega), if_pos (by omega)]

/-- The lower nybble of what a colour cell answers is the nybble it keeps, whatever its upper bits answer (R90). -/
theorem colour_nybble (kept upper : Byte) : (kept &&& 0x0F ||| upper &&& 0xF0) &&& 0x0F = kept &&& 0x0F := by
  have lower : (0x0F : Byte) &&& 0x0F = 0x0F := by decide
  have apart : (0xF0 : Byte) &&& 0x0F = 0 := by decide
  have cleared : upper &&& 0 = 0 := BitVec.and_zero
  rw [BitVec.and_or_distrib_right, BitVec.and_assoc, BitVec.and_assoc, lower, apart, cleared]
  exact BitVec.or_zero

end IoArea

/-- Settles O59: each address of the I/O area belongs to one place, and an access goes to that place alone. -/
theorem colourRamAndIoArea : Obligations.ColourRamAndIoArea := by
  intro s a v hc hr
  have hp := isPortRegister_of_io hr
  refine ⟨fun hlo hhi => ?_, fun r hmem hlo hhi => ?_, fun hlo => ?_⟩
  · have hplace := ioPlace_color hlo hhi
    have written : memWrite a v s =
        logBus (.write a v) { s with colorRam := s.colorRam.write a.toNat (v &&& 0x0F) } := by
      rw [memWrite_io v hc hr, ioWrite, hplace]
    have stored : (memWrite a v s).colorRam.read a.toNat = v &&& 0x0F := by
      rw [written]
      exact Memory.read_write_self _ _ _
    refine ⟨stored, ?_, fun x hne => ?_, ?_, ?_⟩
    · have mapped : currentRegion (memWrite a v s) a = .io := (currentRegion_memWrite v hp a).trans hr
      rw [peek_io (by rwa [memWrite_params]) mapped, ioRead, hplace]
      dsimp only
      rw [colour_nybble, stored, BitVec.and_assoc, BitVec.and_self]
    · exact memWrite_colorRam_read_of_ne a v s fun e => hne (BitVec.eq_of_toNat_eq e)
    · rw [written]
      rfl
    · rw [written]
      rfl
  · have hplace := ioPlace_chip hmem hlo hhi
    refine ⟨?_, readEffect_chip hc hr hplace, ?_⟩
    · rw [peek_io hc hr, ioRead, hplace]
    · rw [memWrite_io v hc hr, ioWrite, hplace]
  · have hplace := ioPlace_expansion hlo
    refine ⟨?_, ?_⟩
    · rw [peek_io hc hr, ioRead, hplace]
    · rw [memWrite_io v hc hr, ioWrite, hplace]

end Sys2Proof.Machine
end

section
/-! The opcode matrix against the decoder and the encoder (30_encoding.md sections 1 to 3), and what a part without ROR
refuses (R113). -/

namespace Sys2Proof.Machine

/-! ## The matrix is total -/

/-- Every opcode has an entry: the matrix has a row for each value of the lower five bits, and every row a column for each
value of the upper three (30_encoding.md R101, R106). -/
theorem exists_formOf (op : Byte) : ∃ form, formOf op = some form := by
  have rows : matrix.length = 32 := rfl
  have columns : ∀ row ∈ matrix, row.length = 8 := by decide
  have hop := op.isLt
  have hr : op.toNat % 32 < matrix.length := by omega
  have hc : op.toNat / 32 < matrix[op.toNat % 32].length := by
    have := columns _ (List.getElem_mem hr)
    omega
  refine ⟨matrix[op.toNat % 32][op.toNat / 32], ?_⟩
  rw [formOf, List.getElem?_eq_getElem hr, Option.bind_some, List.getElem?_eq_getElem hc]

/-- How many bytes an entry takes, the opcode's with them (30_encoding.md R102). -/
def formSize : Form → Nat
  | .bare _ => 1
  | .byte _ => 2
  | .word _ => 3

theorem formSize_bounds (form : Form) : 1 ≤ formSize form ∧ formSize form ≤ 3 := by
  cases form <;> simp [formSize]

theorem decode_of_formOf {op : Byte} {form : Form} (h : formOf op = some form) (b1 b2 : Byte) (rest : List Byte) :
    ∃ i, decode (op :: b1 :: b2 :: rest) = .ok (i, (op :: b1 :: b2 :: rest).drop (formSize form)) := by
  cases form with
  | bare i => exact ⟨i, by simp only [decode, h, formSize, List.drop_succ_cons, List.drop_zero]⟩
  | byte f => exact ⟨f b1, by simp only [decode, h, formSize, List.drop_succ_cons, List.drop_zero]⟩
  | word f => exact ⟨f (wordOf b2 b1), by simp only [decode, h, formSize, List.drop_succ_cons, List.drop_zero]⟩

/-! ## An entry's instruction encodes as the entry's opcode -/

/-- The instruction of an entry, with the operand it asks for out of the two (30_encoding.md R103). -/
def formInstr (b : Byte) (w : Word) : Form → Instr
  | .bare i => i
  | .byte f => f b
  | .word f => f w

/-- The bytes an entry stands for in the matrix: its opcode and the operand bytes it asks for (R100, R103). -/
def formBytes (op b : Byte) (w : Word) : Form → List Byte
  | .bare _ => [op]
  | .byte _ => [op, b]
  | .word _ => op :: wordBytes w

/-- The encoder agrees with the matrix at every row and column: the entry at row `r` and column `c` encodes with the opcode
`32 * c + r` (R101, R104). -/
theorem encode_matrix_entry : ∀ row ∈ matrix.zipIdx, ∀ entry ∈ row.1.zipIdx, ∀ (b : Byte) (w : Word),
    encode (formInstr b w entry.1) = formBytes (BitVec.ofNat 8 (32 * entry.2 + row.2)) b w entry.1 := by
  intro row hrow entry hentry b w
  fin_cases hrow <;> fin_cases hentry <;> rfl

/-- The instruction an opcode begins encodes with that opcode, so no two opcodes begin the same one (R107). -/
theorem encode_of_formOf {op : Byte} {form : Form} (h : formOf op = some form) (b : Byte) (w : Word) :
    encode (formInstr b w form) = formBytes op b w form := by
  obtain ⟨row, hrow, hform⟩ := Option.bind_eq_some_iff.mp h
  have opcode : BitVec.ofNat 8 (32 * (op.toNat / 32) + op.toNat % 32) = op := by
    rw [Nat.div_add_mod, BitVec.ofNat_toNat, BitVec.setWidth_eq]
  have agrees := encode_matrix_entry (row, op.toNat % 32) (List.mem_zipIdx_iff_getElem?.mpr hrow)
    (form, op.toNat / 32) (List.mem_zipIdx_iff_getElem?.mpr hform) b w
  rwa [opcode] at agrees

theorem EncodedBy.encode_eq {i : Instr} {bs : List Byte} (h : EncodedBy i bs) : encode i = bs := by
  cases h with
  | bare h => exact encode_of_formOf h 0 0
  | byte h b => exact encode_of_formOf h b 0
  | word h w => exact encode_of_formOf h 0 w

theorem wordBytes_wordOf (hi lo : Byte) : wordBytes (wordOf hi lo) = [lo, hi] := by
  rw [wordBytes, lo8_wordOf, hi8_wordOf]

/-- What the decoder answers stands at the head of the bytes as an entry of the matrix and its operand (R100, R108). -/
theorem exists_encodedBy_of_decode {bs rest : List Byte} {i : Instr} (h : decode bs = .ok (i, rest)) :
    ∃ enc, EncodedBy i enc ∧ enc ++ rest = bs := by
  cases bs with
  | nil => cases h
  | cons op operands =>
    obtain ⟨form, hform⟩ := exists_formOf op
    simp only [decode, hform] at h
    match form, operands, hform, h with
    | .bare _, _, hform, rfl => exact ⟨_, .bare hform, rfl⟩
    | .byte _, b :: _, hform, rfl => exact ⟨_, .byte hform b, rfl⟩
    | .word _, lo :: hi :: _, hform, rfl =>
      exact ⟨_, .word hform (wordOf hi lo), by rw [wordBytes_wordOf]; rfl⟩

/-- Settles O1: an encoding is an entry of the matrix with its operand, which the decoder takes apart. -/
theorem decodeUndoesEncode : Obligations.DecodeUndoesEncode := decode_encode_append

/-- Settles O2: the length is that of the opcode's entry; what decodes is an entry with its operand, and the encoder agrees
with the matrix there. -/
theorem decodingIsTotalAndExact : Obligations.DecodingIsTotalAndExact := by
  refine ⟨fun op => ?_, fun bs rest i h => ?_⟩
  · obtain ⟨form, hform⟩ := exists_formOf op
    obtain ⟨least, most⟩ := formSize_bounds form
    exact ⟨formSize form, least, most, decode_of_formOf hform⟩
  · obtain ⟨enc, encoded, hbs⟩ := exists_encodedBy_of_decode h
    rw [encoded.encode_eq, hbs]

/-- Settles O3: each word is looked up in the matrix. -/
theorem sampleWordsDecode : Obligations.SampleWordsDecode :=
  ⟨rfl, rfl, rfl, rfl, rfl, rfl, rfl, rfl, rfl, rfl, rfl, rfl, rfl, rfl, rfl, rfl, rfl, rfl⟩

/-! ## Parts without ROR -/

/-- The meanings of ROR, RRA and ARR ask for a part with ROR, and complete there (30_encoding.md R113, log 27). -/
theorem exec_of_usesRor {i : Instr} (h : i.usesRor = true) :
    ∃ meaning : State → Result, exec i = onRorPart meaning ∧ ∀ s, Completes (meaning s) := by
  cases i with
  | rorZp | rorAcc | rorAbs | rorZpx | rorAbx | rraIzx | rraZp | rraAbs | rraIzy | rraZpx | rraAby | rraAbx | arrImm =>
    exact ⟨_, rfl, fun s => ⟨_, rfl⟩⟩
  | _ => cases h

/-- Every other meaning is a next state on every part. -/
theorem exec_completes_of_not_usesRor {i : Instr} (h : i.usesRor = false) (s : State) : Completes (exec i s) := by
  cases i with
  | rorZp | rorAcc | rorAbs | rorZpx | rorAbx | rraIzx | rraZp | rraAbs | rraIzy | rraZpx | rraAby | rraAbx | arrImm =>
    cases h
  | _ => exact ⟨_, rfl⟩

theorem onRorPart_of_not_hasRor {s : State} (h : s.params.hasRor = false) (meaning : State → Result) :
    onRorPart meaning s = .refused .rorAbsent := by
  simp [onRorPart, h]

/-- Settles O31: the thirteen meanings are guarded by the part, the others are next states. -/
theorem rorFamilyStopsWithoutRor : Obligations.RorFamilyStopsWithoutRor := by
  refine fun s i absent => ⟨fun uses => ?_, fun uses => exec_completes_of_not_usesRor uses s⟩
  obtain ⟨meaning, guarded, -⟩ := exec_of_usesRor uses
  rw [guarded, onRorPart_of_not_hasRor absent]

end Sys2Proof.Machine
end

section
/-! The bus sequences of the addressing modes in the three classes, of the implied instructions and of the branches, and the
number of bus cycles of every instruction (40_addressing.md). -/

namespace Sys2Proof.Machine

/-! ## The read sequences -/

section Sequences

variable {m : MemMode} {s : State}

/-- A read that crosses no page accesses the operand once (40_addressing.md R133 to R136, R140, R141). -/
theorem readOperand_of_not_crossed (h : (targetOf m s).crossed = false) : readOperand m s =
    (peekAfter (addressReads m s) (targetOf m s).fixed s,
     afterReads (modeLength m) (addressReads m s ++ [(targetOf m s).fixed]) s) := by
  simp [readOperand_eq, operandByte, afterRead, readReads, h]

/-- A read that crosses a page reads at the unfixed address first (R136, R141). -/
theorem readOperand_of_crossed (h : (targetOf m s).crossed = true) : readOperand m s =
    (peekAfter (addressReads m s ++ [(targetOf m s).unfixed]) (targetOf m s).fixed s,
     afterReads (modeLength m) (addressReads m s ++ [(targetOf m s).unfixed, (targetOf m s).fixed]) s) := by
  simp [readOperand_eq, operandByte, afterRead, readReads, h]

/-- The sum of a base and an index crosses a page when their low bytes carry (R136). -/
theorem indexedBy_not_crossed_of_le {base : Word} {i : Byte} (h : (lo8 base).toNat + i.toNat ≤ 255) :
    (indexedBy base i).crossed = false := decide_eq_false (Nat.not_lt.mpr h)

theorem indexedBy_crossed_of_lt {base : Word} {i : Byte} (h : 255 < (lo8 base).toNat + i.toNat) :
    (indexedBy base i).crossed = true := decide_eq_true h

/-- The two reads of an indexed operand, by whether the low bytes carry (R136, R141). -/
theorem readOperand_of_indexed {base : Word} {i : Byte} (ht : targetOf m s = indexedBy base i) :
    ((lo8 base).toNat + i.toNat ≤ 255 → readOperand m s =
      (peekAfter (addressReads m s) (base + zext16 i) s,
       afterReads (modeLength m) (addressReads m s ++ [base + zext16 i]) s)) ∧
    (255 < (lo8 base).toNat + i.toNat → readOperand m s =
      (peekAfter (addressReads m s ++ [wordOf (hi8 base) (lo8 base + i)]) (base + zext16 i) s,
       afterReads (modeLength m)
        (addressReads m s ++ [wordOf (hi8 base) (lo8 base + i), base + zext16 i]) s)) := by
  refine ⟨fun h => ?_, fun h => ?_⟩
  · have read := readOperand_of_not_crossed (ht ▸ indexedBy_not_crossed_of_le h)
    rwa [ht] at read
  · have read := readOperand_of_crossed (ht ▸ indexedBy_crossed_of_lt h)
    rwa [ht] at read

/-! ## The sequences of the RMW and Write classes -/

/-- The modes that do not fix a high byte never cross a page. -/
theorem not_crossed_of_not_fixesHigh (h : fixesHigh m = false) : (targetOf m s).crossed = false := by
  cases m with
  | zp | zpx | zpy | abs | izx => rfl
  | abx | aby | izy => cases h

theorem writeReads_of_not_fixesHigh (h : fixesHigh m = false) : writeReads m s = addressReads m s := by
  simp [writeReads, h]

theorem writeReads_of_fixesHigh (h : fixesHigh m = true) :
    writeReads m s = addressReads m s ++ [(targetOf m s).unfixed] := by
  simp [writeReads, h]

/-- A Read-Modify-Write operand, its reads before the effective address given (R137, R142, R259). -/
theorem modifyOperand_of_writeReads {pre : List Word} (h : writeReads m s = pre) (f : Byte → Byte) :
    let ea := (targetOf m s).fixed
    let old := peekAfter pre ea s
    modifyOperand m f s = (old, memWrite ea (f old) (memWrite ea old (afterReads (modeLength m) (pre ++ [ea]) s))) := by
  subst h
  exact modifyOperand_eq m f s

/-- A stored operand, its reads given (R138, R143). -/
theorem writeOperand_of_writeReads {pre : List Word} (h : writeReads m s = pre) (v : Byte) :
    writeOperand m v s = memWrite (targetOf m s).fixed v (afterReads (modeLength m) pre s) := by
  subst h
  exact writeOperand_eq m v s

/-- The three classes in a mode that fixes no high byte: the same reads up to the operand (R133 to R135, R140). -/
theorem sequences_of_not_fixesHigh (h : fixesHigh m = false) (v : Byte) (f : Byte → Byte) :
    let ea := (targetOf m s).fixed
    let pre := addressReads m s
    let old := peekAfter pre ea s
    readOperand m s = (old, afterReads (modeLength m) (pre ++ [ea]) s) ∧
    modifyOperand m f s = (old, memWrite ea (f old) (memWrite ea old (afterReads (modeLength m) (pre ++ [ea]) s))) ∧
    writeOperand m v s = memWrite ea v (afterReads (modeLength m) pre s) :=
  ⟨readOperand_of_not_crossed (not_crossed_of_not_fixesHigh h),
    modifyOperand_of_writeReads (writeReads_of_not_fixesHigh h) f,
    writeOperand_of_writeReads (writeReads_of_not_fixesHigh h) v⟩

/-- RMW and store in a mode that fixes the high byte: the read at the unfixed address always happens (R137, R138, R142,
R143). -/
theorem modify_write_of_fixesHigh (h : fixesHigh m = true) (v : Byte) (f : Byte → Byte) :
    let ea := (targetOf m s).fixed
    let pre := addressReads m s ++ [(targetOf m s).unfixed]
    let old := peekAfter pre ea s
    modifyOperand m f s = (old, memWrite ea (f old) (memWrite ea old (afterReads (modeLength m) (pre ++ [ea]) s))) ∧
    writeOperand m v s = memWrite ea v (afterReads (modeLength m) pre s) :=
  ⟨modifyOperand_of_writeReads (writeReads_of_fixesHigh h) f, writeOperand_of_writeReads (writeReads_of_fixesHigh h) v⟩

end Sequences

/-- Settles O16: none of the four modes fixes a high byte. -/
theorem directModeSequences : Obligations.DirectModeSequences := by
  intro s b w v f
  refine ⟨sequences_of_not_fixesHigh (m := .abs w) rfl v f, sequences_of_not_fixesHigh (m := .zp b) rfl v f, ?_⟩
  simp only [List.forall_mem_cons]
  exact ⟨sequences_of_not_fixesHigh (m := .zpx b) rfl v f, sequences_of_not_fixesHigh (m := .zpy b) rfl v f,
    List.forall_mem_nil _⟩

/-- Settles O17: both modes index the operand of the instruction. -/
theorem indexedReadSequence : Obligations.IndexedReadSequence := by
  intro s w
  simp only [List.forall_mem_cons]
  exact ⟨readOperand_of_indexed (m := .abx w) rfl, readOperand_of_indexed (m := .aby w) rfl, List.forall_mem_nil _⟩

/-- Settles O18: both modes fix the high byte, whether or not a page is crossed. -/
theorem indexedModifyAndWriteSequences : Obligations.IndexedModifyAndWriteSequences := by
  intro s w v f
  simp only [List.forall_mem_cons]
  exact ⟨modify_write_of_fixesHigh (m := .abx w) rfl v f, modify_write_of_fixesHigh (m := .aby w) rfl v f,
    List.forall_mem_nil _⟩

/-- Settles O19: `izx` fixes no high byte; `izy` indexes the pointer it reads. -/
theorem indirectModeSequences : Obligations.IndirectModeSequences := by
  intro s b v f
  obtain ⟨once, twice⟩ := readOperand_of_indexed (m := .izy b) (s := s) rfl
  obtain ⟨modify, write⟩ := modify_write_of_fixesHigh (m := .izy b) (s := s) rfl v f
  exact ⟨sequences_of_not_fixesHigh (m := .izx b) rfl v f, once, twice, modify, write⟩

/-! ## Implied instructions -/

/-- Settles O21: each is an implied instruction, its operation after the two reads. -/
theorem impliedRegisterAndFlagInstructions : Obligations.ImpliedRegisterAndFlagInstructions := by
  refine ⟨fun s => ?transfers, fun s => ?steps, fun s => ?flags⟩
  case transfers =>
    exact ⟨⟨rfl, runImplied_eq tax s⟩, ⟨rfl, runImplied_eq tay s⟩, ⟨rfl, runImplied_eq txa s⟩,
      rfl, runImplied_eq tya s⟩
  case steps =>
    exact ⟨⟨rfl, runImplied_eq inx s⟩, ⟨rfl, runImplied_eq iny s⟩, ⟨rfl, runImplied_eq dex s⟩,
      rfl, runImplied_eq dey s⟩
  case flags =>
    exact ⟨⟨rfl, runImplied_eq clc s⟩, ⟨rfl, runImplied_eq sec s⟩, ⟨rfl, runImplied_eq cli s⟩,
      ⟨rfl, runImplied_eq sei s⟩, ⟨rfl, runImplied_eq clv s⟩, ⟨rfl, runImplied_eq cld s⟩, rfl, runImplied_eq sed s⟩

/-! ## Branches -/

section Branches

variable {s : State}

/-- The two fetches of every branch, and what follows when it is taken (R139, R180). -/
theorem branch_eq (cond : Flags → Bool) (off : Byte) (s : State) : branch cond off s =
    .next (if cond s.P then takeBranch off (afterReads 2 [s.pc, s.pc + 1] s) else afterReads 2 [s.pc, s.pc + 1] s) := by
  simp only [branch, skip_skip, afterReads_P]

/-- A branch within the page reads once more, at the next instruction (R139). -/
theorem takeBranch_same_page {up : Word} {off : Byte} (as : List Word)
    (h : hi8 (s.pc + up + sext16 off) = hi8 (s.pc + up)) :
    takeBranch off (afterReads up as s) =
      { afterReads up (as ++ [s.pc + up]) s with pc := s.pc + up + sext16 off } := by
  simp only [takeBranch, afterReads_pc, dummyRead_afterReads, h, if_true]

/-- A branch to another page reads twice more, the second time at the target's low byte in the old page (R139). -/
theorem takeBranch_other_page {up : Word} {off : Byte} (as : List Word)
    (h : hi8 (s.pc + up + sext16 off) ≠ hi8 (s.pc + up)) :
    takeBranch off (afterReads up as s) =
      { afterReads up (as ++ [s.pc + up] ++ [wordOf (hi8 (s.pc + up)) (lo8 (s.pc + up + sext16 off))]) s with
        pc := s.pc + up + sext16 off } := by
  simp only [takeBranch, afterReads_pc, dummyRead_afterReads, h, if_false]

/-- The three sequences of a branch (R139). -/
theorem branch_sequences (cond : Flags → Bool) (off : Byte) (s : State) :
    let target := s.pc + 2 + sext16 off
    (cond s.P = false → branch cond off s = .next (afterReads 2 [s.pc, s.pc + 1] s)) ∧
    (cond s.P = true → hi8 target = hi8 (s.pc + 2) →
      branch cond off s = .next { afterReads 2 [s.pc, s.pc + 1, s.pc + 2] s with pc := target }) ∧
    (cond s.P = true → hi8 target ≠ hi8 (s.pc + 2) →
      branch cond off s = .next
        { afterReads 2 [s.pc, s.pc + 1, s.pc + 2, wordOf (hi8 (s.pc + 2)) (lo8 target)] s with pc := target }) := by
  rw [branch_eq]
  refine ⟨fun untaken => ?_, fun taken same => ?_, fun taken other => ?_⟩
  · simp [untaken]
  · rw [if_pos taken, takeBranch_same_page _ same]
    rfl
  · rw [if_pos taken, takeBranch_other_page _ other]
    rfl

end Branches

/-- Settles O35: each of the eight is a branch on its condition. -/
theorem branchSequences : Obligations.BranchSequences := by
  intro s off
  simp only [List.forall_mem_cons]
  exact ⟨⟨rfl, branch_sequences (fun p => !p.n) off s⟩, ⟨rfl, branch_sequences (fun p => p.n) off s⟩,
    ⟨rfl, branch_sequences (fun p => !p.v) off s⟩, ⟨rfl, branch_sequences (fun p => p.v) off s⟩,
    ⟨rfl, branch_sequences (fun p => !p.c) off s⟩, ⟨rfl, branch_sequences (fun p => p.c) off s⟩,
    ⟨rfl, branch_sequences (fun p => !p.z) off s⟩, ⟨rfl, branch_sequences (fun p => p.z) off s⟩,
    List.forall_mem_nil _⟩

/-! ## The number of bus cycles -/

/-- From `s` to `t` there are `n` bus cycles, each of them listed (00_scope.md R8, R13). -/
structure Takes (n : Nat) (s t : State) : Prop where
  accesses : t.accesses.length = s.accesses.length + n
  tick : t.tick = s.tick + n

section Cycles

variable {n : Nat} {s t u : State}

/-- A change of registers takes no cycle. -/
theorem Takes.registers (h : Takes n s t) (hu : RegistersOnly u t) : Takes n s u := by
  rw [hu]
  exact ⟨h.accesses, h.tick⟩

/-- Each read is a cycle (R8). -/
theorem Takes.reads (up : Word) (as : List Word) (h : Takes n s t) : Takes (n + as.length) s (afterReads up as t) :=
  ⟨by rw [afterReads_accesses, List.length_append, readsOf_length, h.accesses, Nat.add_assoc],
    by rw [afterReads_tick, h.tick, Nat.add_assoc]⟩

/-- A write is a cycle (R8). -/
theorem Takes.write (a : Word) (v : Byte) (h : Takes n s t) : Takes (n + 1) s (memWrite a v t) :=
  ⟨by rw [memWrite_accesses, List.length_append, h.accesses]; rfl, by rw [memWrite_tick, h.tick, Nat.add_assoc]⟩

theorem takes_zero (s : State) : Takes 0 s s := ⟨rfl, rfl⟩

theorem takes_afterReads (up : Word) (as : List Word) (s : State) : Takes as.length s (afterReads up as s) := by
  have reads := (takes_zero s).reads up as
  rwa [Nat.zero_add] at reads

/-- Reads alone, and then changes of registers. -/
theorem takes_of_reads {up : Word} {as : List Word} (count : as.length = n) (h : RegistersOnly t (afterReads up as s)) :
    Takes n s t :=
  (count ▸ takes_afterReads up as s).registers h

theorem Takes.push (v : Byte) (h : Takes n s t) : Takes (n + 1) s (push v t) := (h.write (stackAddr t) v).registers rfl

/-! ### The reads of a mode, against the table of R145 -/

theorem addressReads_length (m : MemMode) (s : State) : (addressReads m s).length = modeCycles m := by
  cases m <;> rfl

theorem readReads_length (m : MemMode) (s : State) : (readReads m s).length = modeCycles m + 1 + crossing m s := by
  cases hc : (targetOf m s).crossed <;> simp [readReads, crossing, addressReads_length, hc]

theorem writeReads_length (m : MemMode) (s : State) : (writeReads m s).length = modeCycles m + fixCycle m := by
  cases hf : fixesHigh m <;> simp [writeReads, fixCycle, addressReads_length, hf]

theorem modifyReads_length (m : MemMode) (s : State) : (modifyReads m s).length = modeCycles m + fixCycle m + 1 := by
  rw [modifyReads, List.length_append, writeReads_length]
  rfl

/-! ### The cycles of each class -/

theorem takes_modified (m : MemMode) (new : Byte) (s : State) :
    Takes (modeCycles m + fixCycle m + 3) s (modified m new s) := by
  have reads := takes_afterReads (modeLength m) (modifyReads m s) s
  rw [modifyReads_length] at reads
  exact (reads.write _ _).write _ _

/-- A store, ordinary or of the SHA family, after the reads of the Write class. -/
theorem takes_write_after_writeReads (m : MemMode) (a : Word) (v : Byte) (s : State) :
    Takes (modeCycles m + fixCycle m + 1) s (memWrite a v (afterReads (modeLength m) (writeReads m s) s)) := by
  have reads := takes_afterReads (modeLength m) (writeReads m s) s
  rw [writeReads_length] at reads
  exact reads.write a v

/-- Taking an exception is three writes and two reads (60_exceptions.md R320). -/
theorem Takes.takeException (b setI : Bool) (vector : Word) (h : Takes n s t) :
    Takes (n + 5) s (takeException b setI vector t) := by
  rw [takeException_eq]
  exact ((((h.write _ _).write _ _).write _ _).reads 0 [vector, vector + 1]).registers rfl

theorem Takes.brkSequence (h : Takes n s t) : Takes (n + 5) s (brkSequence t) := by
  unfold Machine.brkSequence
  split
  · have cleared : Takes n s { t with nmiPending := false } := h.registers rfl
    exact cleared.takeException true true Config.nmiVector
  · exact h.takeException true true Config.irqVector
  · exact h.takeException true true Config.irqVector

theorem takes_jsr (w : Word) (s : State) : Takes 6 s (jsr w s) := by
  rw [jsr_eq]
  have fetched := takes_afterReads 2 [s.pc, s.pc + 1, wordOf 0x01 s.S] s
  exact (((fetched.write _ _).write _ _).reads 0 [s.pc + 2]).registers rfl

end Cycles

/-- What an instruction does in its class takes the cycles of the table, unless it jams (40_addressing.md R145). -/
theorem classEffect_takes {i : Instr} {s t : State} (h : ClassEffect (shapeOf i s) s t) (hj : t.jammed = false) :
    Takes (cyclesOf i s) s t := by
  unfold cyclesOf
  generalize shapeOf i s = sh at h ⊢
  cases sh with
  | implied => exact takes_of_reads (up := 1) (as := [s.pc, s.pc + 1]) rfl (.of_sameButRegisters h)
  | immediate => exact takes_of_reads (up := 2) (as := [s.pc, s.pc + 1]) rfl (.of_sameButRegisters h)
  | read m => exact takes_of_reads (readReads_length m s) (.of_sameButRegisters h)
  | modify m =>
    obtain ⟨new, same⟩ := h
    exact (takes_modified m new s).registers (.of_sameButRegisters same)
  | write m =>
    obtain ⟨v, rfl⟩ := h
    exact takes_write_after_writeReads m _ v s
  | writeHigh m reg => exact (takes_write_after_writeReads m _ _ s).registers (.of_sameButRegisters h)
  | branch taken off =>
    obtain ⟨as, count, h⟩ := h
    exact takes_of_reads (up := 2) count (h ▸ rfl)
  | brk =>
    obtain rfl := h
    exact (takes_afterReads 2 [s.pc, s.pc + 1] s).brkSequence
  | ret =>
    obtain ⟨as, count, h⟩ := h
    exact takes_of_reads (up := 1) count (h ▸ rfl)
  | push =>
    obtain ⟨v, rfl⟩ := h
    exact (takes_afterReads 1 [s.pc, s.pc + 1] s).push v
  | pull =>
    obtain ⟨as, count, h⟩ := h
    exact takes_of_reads (up := 1) count (h ▸ rfl)
  | call =>
    obtain ⟨w, rfl⟩ := h
    exact takes_jsr w s
  | jump =>
    have moved : t = { afterReads 3 [s.pc, s.pc + 1, s.pc + 2] s with pc := t.pc } := h
    exact takes_of_reads (up := 3) (as := [s.pc, s.pc + 1, s.pc + 2]) rfl (moved ▸ rfl)
  | jumpIndirect =>
    obtain ⟨as, count, h⟩ := h
    exact takes_of_reads (up := 3) count (h ▸ rfl)
  | jam =>
    obtain rfl := h
    cases hj
  | rareJam =>
    rcases h with rfl | rfl
    · cases hj
    · exact takes_afterReads 2 [s.pc, s.pc + 1] s

/-- Settles O11: an instruction is of its class, and every class takes the cycles of the table. -/
theorem cyclesFollowTheTable : Obligations.CyclesFollowTheTable := by
  intro i s t h hj
  have taken := classEffect_takes (exec_class i s t h) hj
  exact ⟨taken.accesses, taken.tick⟩

end Sys2Proof.Machine
end

section
/-! Jumps, subroutines, the stack and BRK (41_stack_control.md): each instruction as its bus sequence, its registers and the
pc it leaves. -/

namespace Sys2Proof.Machine

/-! ## Jumps -/

/-- The three fetches of an instruction with a 16-bit operand. -/
theorem skip_skip_skip (s : State) : skip (skip (skip s)) = afterReads 3 [s.pc, s.pc + 1, s.pc + 2] s := by
  rw [skip_skip s, skip_afterReads]
  rfl

/-- JMP absolute in closed form (R178). -/
theorem jumpAbsolute_eq (w : Word) (s : State) :
    jumpAbsolute w s = { afterReads 3 [s.pc, s.pc + 1, s.pc + 2] s with pc := w } := by
  rw [jumpAbsolute, skip_skip_skip]

/-- JMP indirect in closed form: the high byte is read in the page of the low byte (R179, R144). -/
theorem jumpIndirect_eq (p : Word) (s : State) :
    let highAt := wordOf (hi8 p) (lo8 p + 1)
    jumpIndirect p s = { afterReads 3 [s.pc, s.pc + 1, s.pc + 2, p, highAt] s with
      pc := wordOf (peekAfter [s.pc, s.pc + 1, s.pc + 2, p] highAt s) (peekAfter [s.pc, s.pc + 1, s.pc + 2] p s) } := by
  rw [jumpIndirect, skip_skip_skip, jumpThrough_afterReads]
  rfl

/-- Settles O36: both jumps are three fetches; the indirect one then reads its pointer. -/
theorem jumpsLoadPc : Obligations.JumpsLoadPc := fun s w p =>
  ⟨⟨rfl, congrArg Host.Outcome.next (jumpAbsolute_eq w s)⟩, rfl, congrArg Host.Outcome.next (jumpIndirect_eq p s)⟩

/-! ## JSR -/

/-- On plain RAM without the port, two writes elsewhere leave what a read obtains (R60). -/
theorem peek_memWrite_memWrite_flat {s : State} {x a b : Word} (hf : s.params.platform = .flatRam)
    (hport : s.params.hasIoPort = false) (v u : Byte) (ha : x ≠ a) (hb : x ≠ b) :
    peek x (memWrite b u (memWrite a v s)) = peek x s := by
  have noPort : ∀ y : Word, isPortRegister s.params y = false := fun y => by rw [isPortRegister, hport, Bool.false_and]
  have params : (memWrite a v s).params = s.params := memWrite_params a v s
  rw [peek_memWrite_flat u (params ▸ hf) (params ▸ noPort b) (params ▸ noPort x), if_neg hb,
    peek_memWrite_flat v hf (noPort a) (noPort x), if_neg ha]

/-- Settles O37: JSR in closed form; the second part is what its last read obtains on plain RAM. -/
theorem jsrPushesAndJumps : Obligations.JsrPushesAndJumps := by
  have closed (s : State) (w : Word) : exec (.jsr w) s = .next (jsr w s) := rfl
  refine ⟨fun s w => ⟨rfl, (closed s w).trans (congrArg Host.Outcome.next (jsr_eq w s))⟩, ?_⟩
  intro s t w hf hport high ne_top ne_next h
  obtain rfl : jsr w s = t := Host.Outcome.next.inj ((closed s w).symm.trans h)
  have noPort : isPortRegister s.params (s.pc + 2) = false := by rw [isPortRegister, hport, Bool.false_and]
  have fetched (as : List Word) : peek (s.pc + 2) (afterReads 2 as s) = hi8 w := by
    rw [peek_afterReads, peekAfter_flat as _ s hf noPort, high]
  rw [jsr_eq]
  simp only [peek_memWrite_memWrite_flat (s := afterReads 2 _ s) hf hport _ _ ne_top ne_next, fetched, wordOf_hi8_lo8]

/-! ## RTS and RTI -/

/-- Two pulls raise S by two, three by three (R10). -/
theorem stack_up_two (x : Byte) : x + 1 + 1 = x + 2 := BitVec.add_assoc x 1 1

theorem stack_up_three (x : Byte) : x + 1 + 1 + 1 = x + 3 := by
  rw [stack_up_two (x + 1), BitVec.add_assoc]
  rfl

/-- Settles O38: the closed forms of RTS and RTI after the two reads of an implied instruction. -/
theorem returnsPullPc : Obligations.ReturnsPullPc := by
  refine ⟨fun s => ⟨rfl, ?rts⟩, fun s => ⟨rfl, ?rti⟩⟩
  case rts =>
    have h : exec .rts s = .next (rts (afterImplied s)) := runImplied_eq rts s
    rw [h, rts_eq, stack_up_two]
    rfl
  case rti =>
    have h : exec .rti s = .next (returnFromException (afterImplied s)) := runImplied_eq returnFromException s
    rw [h, rti_eq, stack_up_three, stack_up_two]
    rfl

/-! ## Pushes and pulls -/

/-- Settles O39: a push is one write after the two reads of an implied instruction; a pull has its closed form. -/
theorem pushesAndPulls : Obligations.PushesAndPulls := by
  refine ⟨fun s => ⟨⟨rfl, ?pha⟩, rfl, ?php⟩, fun s => ⟨⟨rfl, ?pla⟩, rfl, ?plp⟩⟩
  case pha =>
    have h : exec .pha s = .next (push s.A (afterImplied s)) := runImplied_eq pha s
    rw [h, push_eq]
    rfl
  case php =>
    have h : exec .php s = .next (push (statusByte true s.P) (afterImplied s)) := runImplied_eq php s
    rw [h, push_eq, statusByte_true]
    rfl
  case pla =>
    have h : exec .pla s = .next (pla (afterImplied s)) := runImplied_eq pla s
    rw [h, pla_eq]
  case plp =>
    have h : exec .plp s = .next (plp (afterImplied s)) := runImplied_eq plp s
    rw [h, plp_eq]
    rfl

/-! ## BRK -/

/-- Whether an NMI is pending plays no part in taking an exception. -/
theorem takeException_with_nmiPending (b setI : Bool) (vector : Word) (s : State) (n : Bool) :
    takeException b setI vector { s with nmiPending := n } = { takeException b setI vector s with nmiPending := n } := by
  rw [takeException_eq, takeException_eq]
  simp only [memWrite_with_nmiPending]
  rfl

/-- BRK takes its own interrupt unless an NMI overtakes it; an overtaking IRQ has the same vector (R170, R323). -/
theorem brkSequence_of_not_nmi {s : State} (h : s.hijack ≠ .nmi) :
    brkSequence s = takeException true true Config.irqVector s := by
  unfold brkSequence
  split
  next hn => exact absurd hn h
  next => rfl
  next => rfl

/-- An NMI that overtakes a BRK is consumed (R323). -/
theorem brkSequence_of_nmi {s : State} (h : s.hijack = .nmi) :
    brkSequence s = { takeException true true Config.nmiVector s with nmiPending := false } := by
  unfold brkSequence
  split
  next => exact takeException_with_nmiPending true true Config.nmiVector s false
  next hi => cases h.symm.trans hi
  next hn => cases h.symm.trans hn

/-- The entry of a BRK in closed form: pc + 2 and P with bits 4 and 5 set are pushed, I is set (R170, R321). -/
theorem takeException_brk_eq (vector : Word) (s : State) :
    let p1 : Byte := BitVec.ofNat 8 (128 * s.P.n.toNat + 64 * s.P.v.toNat + 32 + 16 +
      8 * s.P.d.toNat + 4 * s.P.i.toNat + 2 * s.P.z.toNat + s.P.c.toNat)
    let t := memWrite (wordOf 0x01 (s.S - 2)) p1 (memWrite (wordOf 0x01 (s.S - 1)) (lo8 (s.pc + 2))
      (memWrite (wordOf 0x01 s.S) (hi8 (s.pc + 2)) (afterReads 2 [s.pc, s.pc + 1] s)))
    takeException true true vector (afterReads 2 [s.pc, s.pc + 1] s) = { afterReads 0 [vector, vector + 1] t with
      S := s.S - 3, P := { s.P with i := true },
      pc := wordOf (peekAfter [vector] (vector + 1) t) (peek vector t) } := by
  rw [takeException_eq, statusByte_true, Bool.or_true]
  rfl

/-- Settles O40: two fetches and the entry, through FFFE or, when an NMI overtakes it, through FFFA. -/
theorem brkTakesItsInterrupt : Obligations.BrkTakesItsInterrupt := by
  intro s p1 t
  have fetched : exec .brk s = .next (brkSequence (afterReads 2 [s.pc, s.pc + 1] s)) :=
    congrArg (fun u => Host.Outcome.next (brkSequence u)) (skip_skip s)
  refine ⟨rfl, fun own => ?own, fun overtaken => ?overtaken⟩
  case own =>
    have notNmi : (afterReads 2 [s.pc, s.pc + 1] s).hijack ≠ .nmi := own
    rw [fetched, brkSequence_of_not_nmi notNmi, takeException_brk_eq]
    rfl
  case overtaken =>
    have nmi : (afterReads 2 [s.pc, s.pc + 1] s).hijack = .nmi := overtaken
    rw [fetched, brkSequence_of_nmi nmi, takeException_brk_eq]
    rfl

end Sys2Proof.Machine
end

section
/-! The NOPs in every mode (42_implied.md, 45_undocumented.md): the bus reads of the mode, whose byte is discarded. -/

namespace Sys2Proof.Machine

/-- An implied instruction with no operation is its two reads (40_addressing.md R131). -/
theorem runImplied_id (s : State) : runImplied (fun t => t) s = .next (afterReads 1 [s.pc, s.pc + 1] s) :=
  runImplied_eq _ s

/-- An immediate instruction that discards its operand is its two fetches (40_addressing.md R132). -/
theorem runImm_discard (v : Byte) (s : State) : runImm discard v s = .next (afterReads 2 [s.pc, s.pc + 1] s) :=
  runImm_next rfl

/-- A Read-class instruction that discards the byte it reads is the reads of its mode (R300). -/
theorem runRead_discard (m : MemMode) (s : State) :
    runRead discard m s = .next (afterReads (modeLength m) (readReads m s) s) :=
  runRead_next rfl

/-- Settles O22: each NOP has the shape of its mode with an operation that changes nothing. -/
theorem nopsChangeNothing : Obligations.NopsChangeNothing := by
  refine fun s v b w => ⟨?implied, ?immediate, ?read⟩
  case implied =>
    have imp := runImplied_id s
    simp only [List.forall_mem_cons]
    exact ⟨⟨rfl, imp⟩, ⟨rfl, imp⟩, ⟨rfl, imp⟩, ⟨rfl, imp⟩, ⟨rfl, imp⟩, ⟨rfl, imp⟩, ⟨rfl, imp⟩, List.forall_mem_nil _⟩
  case immediate =>
    have imm := runImm_discard v s
    simp only [List.forall_mem_cons]
    exact ⟨⟨rfl, imm⟩, ⟨rfl, imm⟩, List.forall_mem_nil _⟩
  case read =>
    have zp := runRead_discard (.zp b) s
    have zpx := runRead_discard (.zpx b) s
    have abs := runRead_discard (.abs w) s
    have abx := runRead_discard (.abx w) s
    simp only [List.forall_mem_cons]
    exact ⟨⟨rfl, zp⟩, ⟨rfl, abs⟩, ⟨rfl, zpx⟩, ⟨rfl, abx⟩, ⟨rfl, zpx⟩, ⟨rfl, abx⟩, ⟨rfl, zp⟩, ⟨rfl, zpx⟩, ⟨rfl, abx⟩,
      ⟨rfl, zp⟩, ⟨rfl, zpx⟩, ⟨rfl, abx⟩, ⟨rfl, zpx⟩, ⟨rfl, abx⟩, ⟨rfl, zpx⟩, ⟨rfl, abx⟩, List.forall_mem_nil _⟩

end Sys2Proof.Machine
end

section
/-! Logic, addition and subtraction, comparisons and BIT (43_read.md): each mnemonic's operation in every mode. -/

namespace Sys2Proof.Machine

/-- A list of opcodes, each an instruction of the Read class with the operation `op` in the mode beside it: each encodes
as its opcode and does `op` on the operand byte after the reads of its mode. -/
theorem readForms_next {op : Byte → State → State} {forms : List (Byte × Instr × MemMode)} {s : State}
    (opcodes : forms.map (fun f => (encode f.2.1).head?) = forms.map (fun f => some f.1))
    (meanings : forms.map (fun f => exec f.2.1 s) = forms.map (fun f => runRead op f.2.2 s)) :
    ∀ f ∈ forms, (encode f.2.1).head? = some f.1 ∧
      exec f.2.1 s = .next (op (operandByte f.2.2 s) (afterRead f.2.2 s)) := by
  intro f hf
  have opcode := List.map_inj_left.mp opcodes f hf
  have meaning := List.map_inj_left.mp meanings f hf
  exact ⟨opcode, meaning.trans (runRead_eq op f.2.2 s)⟩

/-- Settles O24: every form of a mnemonic is its operation in the shape of its mode. -/
theorem logicCombinesWithTheAccumulator : Obligations.LogicCombinesWithTheAccumulator := fun s v _ _ =>
  ⟨⟨rfl, runImm_eq ora v s⟩, readForms_next (op := ora) rfl rfl,
   ⟨rfl, runImm_eq andA v s⟩, readForms_next (op := andA) rfl rfl,
   ⟨rfl, runImm_eq eor v s⟩, readForms_next (op := eor) rfl rfl⟩

/-- Settles O26: the choice between binary and decimal is `adcSum` and `sbcSum`, made on the D the reads leave alone. -/
theorem additionAndSubtraction : Obligations.AdditionAndSubtraction := by
  refine ⟨fun s v b w => ?adc, fun s v b w => ?sbc⟩
  case adc => exact ⟨⟨rfl, runImm_eq adc v s⟩, readForms_next (op := adc) rfl rfl⟩
  case sbc => exact ⟨⟨rfl, runImm_eq sbc v s⟩, ⟨rfl, runImm_eq sbc v s⟩, readForms_next (op := sbc) rfl rfl⟩

/-- Settles O28: the comparisons write `compareFlags`, BIT writes `bitFlags`, and no register is written. -/
theorem comparisonsAndBit : Obligations.ComparisonsAndBit := by
  refine ⟨fun s v b w => ?compare, fun s b w => ?bit⟩
  case compare =>
    exact ⟨⟨rfl, runImm_eq cmp v s⟩, readForms_next (op := cmp) rfl rfl,
      ⟨rfl, runImm_eq cpx v s⟩, readForms_next (op := cpx) rfl rfl,
      ⟨rfl, runImm_eq cpy v s⟩, readForms_next (op := cpy) rfl rfl⟩
  case bit => exact readForms_next (op := bitTest) rfl rfl

end Sys2Proof.Machine
end

section
/-! The arithmetic of 43_read.md section 3: what AddBinary says of the unsigned and the signed sum, and the decimal
algorithms on the bytes of two-digit decimal numbers. -/

namespace Sys2Proof.Machine

/-! ## Binary addition -/

theorem addBinary_val_toNat (a m : Byte) (c : Bool) :
    (addBinary a m c).val.toNat = (a.toNat + m.toNat + c.toNat) % 256 :=
  BitVec.toNat_ofNat _ 8

theorem addBinary_c_iff (a m : Byte) (c : Bool) :
    (addBinary a m c).c = true ↔ 256 ≤ a.toNat + m.toNat + c.toNat :=
  decide_eq_true_iff

/-- The bit formula of R238, read on the signs of the operands and of the result. -/
theorem addBinary_v_iff_signs (a m : Byte) (c : Bool) :
    (addBinary a m c).v = true ↔ a.msb = m.msb ∧ a.msb ≠ (addBinary a m c).val.msb := by
  have formula : (addBinary a m c).v = (~~~(a ^^^ m) &&& (a ^^^ (addBinary a m c).val)).msb := rfl
  rw [formula, BitVec.msb_and, BitVec.msb_not, BitVec.msb_xor, BitVec.msb_xor]
  generalize (addBinary a m c).val.msb = r
  cases a.msb <;> cases m.msb <;> cases r <;> decide

theorem addBinary_v_iff (a m : Byte) (c : Bool) :
    (addBinary a m c).v = true ↔ a.toInt + m.toInt + c.toNat < -128 ∨ 127 < a.toInt + m.toInt + c.toNat := by
  have hval := addBinary_val_toNat a m c
  have hc := c.toNat_le
  have ha := a.isLt
  have hm := m.isLt
  simp only [addBinary_v_iff_signs, BitVec.msb_eq_decide, ne_eq, decide_eq_decide, BitVec.toInt_eq_toNat_cond]
  omega

theorem addBinary_n (a m : Byte) (c : Bool) : (addBinary a m c).n = (addBinary a m c).val.getLsbD 7 :=
  (addBinary a m c).val.msb_eq_getLsbD_last

/-- The complement of a byte is its signed value negated, less one: why `~m` with C subtracts (R237). -/
theorem toInt_not_byte (m : Byte) : (~~~m).toInt = -m.toInt - 1 := by
  have hm := m.isLt
  simp only [BitVec.toInt_eq_toNat_cond, BitVec.toNat_not]
  omega

/-- Settles O25: the unsigned facts by the definition of the sum, V by the signs, and the difference as the sum with the
complement. -/
theorem binaryAdditionIsExact : Obligations.BinaryAdditionIsExact := by
  refine ⟨fun a m c => ⟨addBinary_val_toNat a m c, addBinary_c_iff a m c, addBinary_v_iff a m c, addBinary_n a m c,
    beq_iff_eq⟩, fun a m c => ?difference⟩
  case difference =>
    have hc := c.toNat_le
    have hm := m.isLt
    simp only [addBinary_val_toNat, addBinary_c_iff, addBinary_v_iff, toInt_not_byte, BitVec.toNat_not]
    omega

/-! ## Decimal mode on BCD bytes -/

/-- The byte whose nybbles are the two decimal digits of a number below 100. -/
def bcd (n : Nat) : Byte := BitVec.ofNat 8 (n / 10 * 16 + n % 10)

theorem toNat_bcd (x : Fin 100) : (bcd x).toNat = x / 10 * 16 + x % 10 := by
  rw [bcd, BitVec.toNat_ofNat]
  omega

theorem bcd_highDigit (x : Fin 100) : (bcd x).toNat / 16 = x / 10 := by
  rw [toNat_bcd]
  omega

theorem bcd_lowDigit (x : Fin 100) : (bcd x).toNat % 16 = x % 10 := by
  rw [toNat_bcd]
  omega

/-- The low digits add with a decimal carry worth 16 (R240). -/
theorem decimalLow_bcd (x y : Fin 100) (c : Bool) :
    decimalLow (bcd x) (bcd y) c = (x % 10 + y % 10 + c.toNat) / 10 * 16 + (x % 10 + y % 10 + c.toNat) % 10 := by
  have hc := c.toNat_le
  simp only [decimalLow, bcd_lowDigit]
  split <;> omega

/-- Before the high digit is fixed, the sum of R240 is made of the digits of the exact sum. -/
theorem decimalSum_bcd (x y : Fin 100) (c : Bool) :
    (bcd x).toNat / 16 * 16 + (bcd y).toNat / 16 * 16 + decimalLow (bcd x) (bcd y) c =
      (x + y + c.toNat) / 10 * 16 + (x + y + c.toNat) % 10 := by
  rw [bcd_highDigit, bcd_highDigit, decimalLow_bcd]
  omega

/-- The fix of the high digit, which adds 96, drops the hundred (R240). -/
theorem highDigitFix_add {t n : Nat} (digits : t = n / 10 * 16 + n % 10) (h : n < 200) :
    BitVec.ofNat 8 (if 160 ≤ t then t + 96 else t) = bcd (n % 100) := by
  rcases Nat.lt_or_ge n 100 with small | large
  · rw [if_neg (by omega), Nat.mod_eq_of_lt small, bcd, digits]
  · obtain ⟨k, rfl⟩ := Nat.exists_eq_add_of_le large
    have hundredDropped : (100 + k) % 100 = k := by omega
    apply BitVec.eq_of_toNat_eq
    rw [if_pos (by omega), hundredDropped, bcd, BitVec.toNat_ofNat, BitVec.toNat_ofNat]
    omega

theorem decAdc_val_bcd (x y : Fin 100) (c : Bool) :
    (decAdc (bcd x) (bcd y) c).val = bcd ((x + y + c.toNat) % 100) := by
  have hc := c.toNat_le
  exact highDigitFix_add (decimalSum_bcd x y c) (by omega)

theorem decAdc_c_bcd (x y : Fin 100) (c : Bool) :
    (decAdc (bcd x) (bcd y) c).c = true ↔ 100 ≤ x.val + y.val + c.toNat := by
  have hc := c.toNat_le
  simp only [decAdc, decimalSum_bcd, decide_eq_true_iff]
  split <;> omega

/-- The difference of R241 before the high digit is fixed: a borrow of the low digits takes 16 and leaves a digit. -/
def decimalDifference (a m : Byte) (c : Bool) : Int :=
  let low : Int := a.toNat % 16 - m.toNat % 16 + c.toNat - 1
  a.toNat / 16 * 16 - m.toNat / 16 * 16 + (if low < 0 then (low - 6) % 16 - 16 else low)

theorem decSbc_val (a m : Byte) (c : Bool) :
    (decSbc a m c).val =
      BitVec.ofInt 8 (if decimalDifference a m c < 0 then decimalDifference a m c - 96 else decimalDifference a m c) :=
  rfl

/-- It is made of the digits of the exact difference, a negative one having its tens rounded down. -/
theorem decimalDifference_bcd (x y : Fin 100) (c : Bool) :
    decimalDifference (bcd x) (bcd y) c =
      ((x.val : Int) + c.toNat - y.val - 1) / 10 * 16 + ((x.val : Int) + c.toNat - y.val - 1) % 10 := by
  have hc := c.toNat_le
  have xHigh := bcd_highDigit x
  have xLow := bcd_lowDigit x
  have yHigh := bcd_highDigit y
  have yLow := bcd_lowDigit y
  simp only [decimalDifference]
  split <;> omega

/-- The fix of the high digit, which subtracts 96, borrows a hundred (R241). -/
theorem highDigitFix_sub {t n : Int} {k : Nat} (digits : t = n / 10 * 16 + n % 10) (hk : k < 100)
    (hn : n = k ∨ n = k - 100) : BitVec.ofInt 8 (if t < 0 then t - 96 else t) = bcd k := by
  have fixed : (if t < 0 then t - 96 else t) = (k / 10 * 16 + k % 10 : Nat) + (if n < 0 then -256 else 0) := by
    split <;> split <;> omega
  rw [fixed, bcd, ← BitVec.ofInt_natCast, BitVec.ofInt_add]
  split <;> simp

theorem decSbc_val_bcd (x y : Fin 100) (c : Bool) :
    (decSbc (bcd x) (bcd y) c).val = bcd ((x.val + 100 + c.toNat - y.val - 1) % 100) := by
  have hc := c.toNat_le
  rw [decSbc_val]
  exact highDigitFix_sub (decimalDifference_bcd x y c) (by omega) (by omega)

theorem decSbc_c_bcd (x y : Fin 100) (c : Bool) :
    (decSbc (bcd x) (bcd y) c).c = true ↔ y.val + 1 ≤ x.val + c.toNat := by
  have hc := c.toNat_le
  have noBorrow : (decSbc (bcd x) (bcd y) c).c = (addBinary (bcd x) (~~~bcd y) c).c := rfl
  rw [noBorrow, addBinary_c_iff, BitVec.toNat_not, toNat_bcd, toNat_bcd]
  omega

/-- Settles O27: the values by the digits of the exact sum and difference, C of the subtraction as the binary one, the
other flags by the definition of the algorithms. -/
theorem decimalModeOnBcd : Obligations.DecimalModeOnBcd :=
  ⟨fun x y c => ⟨decAdc_val_bcd x y c, decAdc_c_bcd x y c, rfl⟩,
   fun x y c => ⟨decSbc_val_bcd x y c, decSbc_c_bcd x y c⟩,
   fun _ _ _ => ⟨rfl, rfl, rfl, rfl⟩⟩

end Sys2Proof.Machine
end

section
/-! The shifts and rotates, INC, DEC and the stores in every mode (44_rmw_write.md): what each does to the byte, and the
two writes, or the one, that its mode makes after the reads. -/

namespace Sys2Proof.Machine

/-! ## The byte operations -/

theorem asl_eq (v : Byte) (p : Flags) : asl v p = (v <<< 1, { setNZ (v <<< 1) p with c := v.getLsbD 7 }) := rfl

theorem lsr_eq (v : Byte) (p : Flags) : lsr v p = (v >>> 1, { setNZ (v >>> 1) p with c := v.getLsbD 0 }) := rfl

/-- The old C comes in as bit 0 (44_rmw_write.md R252). -/
theorem rolByte_eq (v : Byte) (c : Bool) : rolByte v c = (v <<< 1) ||| (if c then 0x01 else 0x00) := by
  cases c <;> rfl

/-- The old C comes in as bit 7 (R253). -/
theorem rorByte_eq (v : Byte) (c : Bool) : rorByte v c = (v >>> 1) ||| (if c then 0x80 else 0x00) := by
  cases c <;> rfl

theorem rol_eq (v : Byte) (p : Flags) :
    rol v p = ((v <<< 1) ||| (if p.c then 0x01 else 0x00),
      { setNZ ((v <<< 1) ||| (if p.c then 0x01 else 0x00)) p with c := v.getLsbD 7 }) := by
  rw [rol, rolByte_eq]

theorem ror_eq (v : Byte) (p : Flags) :
    ror v p = ((v >>> 1) ||| (if p.c then 0x80 else 0x00),
      { setNZ ((v >>> 1) ||| (if p.c then 0x80 else 0x00)) p with c := v.getLsbD 0 }) := by
  rw [ror, rorByte_eq]

theorem inc_eq (v : Byte) (p : Flags) : inc v p = (v + 1, setNZ (v + 1) p) := rfl

theorem dec_eq (v : Byte) (p : Flags) : dec v p = (v - 1, setNZ (v - 1) p) := rfl

/-! ## The shapes with a known byte operation -/

theorem onRorPart_of_hasRor {s : State} (h : s.params.hasRor = true) (meaning : State → Result) :
    onRorPart meaning s = meaning s := by
  simp [onRorPart, h]

/-- An accumulator instruction whose byte operation is known (40_addressing.md R131, 44_rmw_write.md R259). -/
theorem runAcc_next {f : Byte → Flags → Byte × Flags} {s : State} {new : Byte} {flags : Flags}
    (effect : f s.A s.P = (new, flags)) : runAcc f s = .next { afterImplied s with A := new, P := flags } := by
  have operation : runAcc f s = .next { afterImplied s with A := (f s.A s.P).1, P := (f s.A s.P).2 } :=
    runImplied_eq _ s
  rw [operation, effect]

/-- A plain Read-Modify-Write instruction whose byte operation is known (R259). -/
theorem runRmw_next {f : Byte → Flags → Byte × Flags} {new : Byte → Byte} {flags : Byte → Flags} {s : State}
    (effect : ∀ old, f old s.P = (new old, flags old)) (m : MemMode) :
    runRmw f m s = .next { modified m (new (oldByte m s)) s with P := flags (oldByte m s) } := by
  rw [runRmw, runRmwThen_eq, effect]

/-! ## All the modes of a mnemonic -/

/-- A list of opcodes, each an instruction with the meaning `run` in the mode beside it, whose next state in a mode is
known: each encodes as its opcode and has that next state. -/
theorem modeForms_next {forms : List (Byte × Instr × MemMode)} {s : State} {run : MemMode → State → Result}
    {after : MemMode → State} (shape : ∀ m, run m s = .next (after m))
    (opcodes : forms.map (fun f => (encode f.2.1).head?) = forms.map (fun f => some f.1))
    (meanings : forms.map (fun f => exec f.2.1 s) = forms.map (fun f => run f.2.2 s)) :
    ∀ f ∈ forms, (encode f.2.1).head? = some f.1 ∧ exec f.2.1 s = .next (after f.2.2) := by
  intro f hf
  have opcode := List.map_inj_left.mp opcodes f hf
  have meaning := List.map_inj_left.mp meanings f hf
  exact ⟨opcode, meaning.trans (shape f.2.2)⟩

/-- Settles O29: each mnemonic is its byte operation on A or on the byte of its mode. -/
theorem shiftsAndRotatesLeftAndLsr : Obligations.ShiftsAndRotatesLeftAndLsr := fun s _ _ =>
  ⟨⟨rfl, runAcc_next (asl_eq s.A s.P)⟩, modeForms_next (run := runRmw asl) (runRmw_next (asl_eq · s.P)) rfl rfl,
   ⟨rfl, runAcc_next (lsr_eq s.A s.P)⟩, modeForms_next (run := runRmw lsr) (runRmw_next (lsr_eq · s.P)) rfl rfl,
   ⟨rfl, runAcc_next (rol_eq s.A s.P)⟩, modeForms_next (run := runRmw rol) (runRmw_next (rol_eq · s.P)) rfl rfl⟩

/-- Settles O30: on a part with ROR the guard of each form passes on to the rotation. -/
theorem rotateRightOnRorParts : Obligations.RotateRightOnRorParts := by
  intro s b w present
  have accumulator : exec .rorAcc s = runAcc ror s := onRorPart_of_hasRor present (runAcc ror)
  have memory (m : MemMode) := (onRorPart_of_hasRor present (runRmw ror m)).trans (runRmw_next (ror_eq · s.P) m)
  exact ⟨⟨rfl, accumulator.trans (runAcc_next (ror_eq s.A s.P))⟩,
    modeForms_next (run := fun m => onRorPart (runRmw ror m)) memory rfl rfl⟩

/-- Settles O32: the flags of both are `setNZ` of the new byte alone. -/
theorem memoryIncrementsAndDecrements : Obligations.MemoryIncrementsAndDecrements := fun s _ _ =>
  ⟨modeForms_next (run := runRmw inc) (runRmw_next (inc_eq · s.P)) rfl rfl,
   modeForms_next (run := runRmw dec) (runRmw_next (dec_eq · s.P)) rfl rfl⟩

/-- Settles O33: each form is the store of its register in the shape of its mode. -/
theorem storesWriteTheRegister : Obligations.StoresWriteTheRegister := fun s _ _ =>
  ⟨modeForms_next (run := runStore (·.A)) (runStore_eq (·.A) · s) rfl rfl,
   modeForms_next (run := runStore (·.X)) (runStore_eq (·.X) · s) rfl rfl,
   modeForms_next (run := runStore (·.Y)) (runStore_eq (·.Y) · s) rfl rfl⟩

end Sys2Proof.Machine
end

section
/-! The undocumented opcodes (45_undocumented.md): the combined RMW instructions, LAX and LAS, the immediate ones, the
stores and the jams. -/

namespace Sys2Proof.Machine

/-! ## The combined Read-Modify-Write instructions

The register operation runs on the flags that the byte operation left. It overwrites N and Z; what SLO, RLA and SRE
keep of them is C, and RRA takes its carry-in from them. -/

/-- SLO in closed form (R271). -/
theorem slo_next (s : State) (m : MemMode) :
    let old := oldByte m s
    let new := old <<< 1
    runRmwThen asl ora m s = .next { modified m new s with
      A := s.A ||| new, P := { setNZ (s.A ||| new) s.P with c := old.getLsbD 7 } } := by
  simp only [runRmwThen_eq, asl_eq, ora, modified_A]
  rfl

/-- RLA in closed form (R272). -/
theorem rla_next (s : State) (m : MemMode) :
    let old := oldByte m s
    let new := (old <<< 1) ||| (if s.P.c then 0x01 else 0x00)
    runRmwThen rol andA m s = .next { modified m new s with
      A := s.A &&& new, P := { setNZ (s.A &&& new) s.P with c := old.getLsbD 7 } } := by
  simp only [runRmwThen_eq, rol_eq, andA, modified_A]
  rfl

/-- SRE in closed form (R273). -/
theorem sre_next (s : State) (m : MemMode) :
    let old := oldByte m s
    let new := old >>> 1
    runRmwThen lsr eor m s = .next { modified m new s with
      A := s.A ^^^ new, P := { setNZ (s.A ^^^ new) s.P with c := old.getLsbD 0 } } := by
  simp only [runRmwThen_eq, lsr_eq, eor, modified_A]
  rfl

/-- DCP in closed form (R277). -/
theorem dcp_next (s : State) (m : MemMode) :
    let new := oldByte m s - 1
    runRmwThen dec cmp m s = .next { modified m new s with
      P := { setNZ (s.A - new) s.P with c := decide (new.toNat ≤ s.A.toNat) } } := by
  simp only [runRmwThen_eq, dec_eq, cmp, modified_A]
  rfl

/-- Settles O45: every form is its mnemonic's closed form in the mode beside it. -/
theorem combinedShiftsAndCompare : Obligations.CombinedShiftsAndCompare := fun s _ _ =>
  ⟨modeForms_next (slo_next s) rfl rfl, modeForms_next (rla_next s) rfl rfl, modeForms_next (sre_next s) rfl rfl,
   modeForms_next (dcp_next s) rfl rfl⟩

/-- RRA in closed form: the carry-in of the addition is the bit rotated out (R274). -/
theorem rra_next (s : State) (m : MemMode) :
    let old := oldByte m s
    let new := (old >>> 1) ||| (if s.P.c then 0x80 else 0x00)
    let sum := adcSum s.A new { s.P with c := old.getLsbD 0 }
    runRmwThen ror adc m s = .next { modified m new s with A := sum.val, P := setSum sum s.P } := by
  simp only [runRmwThen_eq, ror_eq, adc, modified_A]
  rfl

/-- ISB in closed form: the C of the subtraction is the one before the instruction, which INC leaves alone (R278). -/
theorem isb_next (s : State) (m : MemMode) :
    let new := oldByte m s + 1
    let difference := sbcSum s.A new s.P
    runRmwThen inc sbc m s = .next { modified m new s with A := difference.val, P := setSum difference s.P } := by
  simp only [runRmwThen_eq, inc_eq, sbc, modified_A]
  rfl

/-- Settles O46: on a part with ROR the guard of RRA passes on to its closed form; ISB has no guard. -/
theorem combinedRotateAddAndIncrementSubtract : Obligations.CombinedRotateAddAndIncrementSubtract := by
  intro s b w add sub
  refine ⟨fun present => ?rra, ?isb⟩
  case rra =>
    have guarded (m : MemMode) := (onRorPart_of_hasRor present (runRmwThen ror adc m)).trans (rra_next s m)
    exact modeForms_next (run := fun m => onRorPart (runRmwThen ror adc m)) guarded rfl rfl
  case isb => exact modeForms_next (isb_next s) rfl rfl

/-! ## LAX and LAS, and the immediate instructions -/

/-- Settles O47: every form is LAX on the operand byte of its mode. -/
theorem laxLoadsBothRegisters : Obligations.LaxLoadsBothRegisters := fun _ _ _ =>
  readForms_next (op := lax) rfl rfl

/-- Settles O48: ANC and ASR on the immediate byte, LAS on the operand byte of its mode. -/
theorem ancAsrLasResults : Obligations.AncAsrLasResults := by
  refine fun s v w => ⟨?anc, ⟨rfl, runImm_eq asr v s⟩, rfl, runRead_eq las (.aby w) s⟩
  case anc =>
    have meaning := runImm_eq anc v s
    simp only [List.forall_mem_cons]
    exact ⟨⟨rfl, meaning⟩, ⟨rfl, meaning⟩, List.forall_mem_nil _⟩

/-- Settles O49: SBX writes the flags of the comparison of A and X with the immediate byte. -/
theorem sbxSubtractsFromTheAnd : Obligations.SbxSubtractsFromTheAnd := fun s v => ⟨rfl, runImm_eq sbx v s⟩

/-! ## ARR -/

/-- On a part with ROR, ARR is its operation on the immediate byte (R281). -/
theorem arrImm_next {s : State} (present : s.params.hasRor = true) (v : Byte) :
    exec (.arrImm v) s = .next (arr v (afterImmediate s)) :=
  (onRorPart_of_hasRor present (runImm arr v)).trans (runImm_eq arr v s)

theorem arr_of_binary {s : State} (binary : s.P.d = false) (v : Byte) :
    arr v s = { s with A := (arrBinary (s.A &&& v) s.P).1, P := (arrBinary (s.A &&& v) s.P).2 } := by
  simp [arr, binary]

theorem arr_of_decimal {s : State} (decimal : s.P.d = true) (v : Byte) :
    arr v s = { s with A := (arrDecimal (s.A &&& v) s.P).1, P := (arrDecimal (s.A &&& v) s.P).2 } := by
  simp [arr, decimal]

/-- The high nybble of one byte beside the low nybble of another, as a number. -/
theorem toNat_nybbles (hi lo : Byte) :
    ((hi &&& 0xF0) ||| (lo &&& 0x0F)).toNat = hi.toNat / 16 * 16 + lo.toNat % 16 := by
  have lowBits : (lo &&& 0x0F).toNat = lo.toNat % 16 := Nat.and_two_pow_sub_one_eq_mod lo.toNat 4
  have highBits : (hi &&& 0xF0).toNat = (hi.toNat / 16) <<< 4 := by
    have shifted : hi &&& (0xF0 : Byte) = hi >>> 4 <<< 4 := (BitVec.shiftLeft_ushiftRight (n := 4)).symm
    have inByte := hi.isLt
    rw [shifted, BitVec.toNat_shiftLeft, BitVec.toNat_ushiftRight, Nat.shiftRight_eq_div_pow, Nat.shiftLeft_eq]
    omega
  rw [BitVec.toNat_or, lowBits, highBits, ← Nat.shiftLeft_add_eq_or_of_lt (by omega), Nat.shiftLeft_eq]

/-- The fix of the low nybble adds 6 to it and carries nothing into the high one (R281). -/
theorem arrFixLow_toNat (t r : Byte) :
    (arrFixLow t r).toNat =
      if 5 < t.toNat % 16 + t.toNat % 16 % 2 then r.toNat / 16 * 16 + (r.toNat + 6) % 16 else r.toNat := by
  have sixMore : (r + 6).toNat % 16 = (r.toNat + 6) % 16 := by
    rw [BitVec.toNat_add, Nat.mod_mod_of_dvd _ (by decide)]
    rfl
  rw [arrFixLow, apply_ite BitVec.toNat, toNat_nybbles, sixMore]

/-- The decimal routine in numbers: the fix of the high nybble is modulo 256 (R281). -/
theorem arrDecimal_eq (t : Byte) (p : Flags) :
    let r := (t >>> 1) ||| (if p.c then 0x80 else 0x00)
    let al := t.toNat % 16
    let ah := t.toNat / 16
    let low := if 5 < al + al % 2 then r.toNat / 16 * 16 + (r.toNat + 6) % 16 else r.toNat
    let carry := decide (5 < ah + ah % 2)
    arrDecimal t p = (BitVec.ofNat 8 (if carry then low + 0x60 else low),
      { p with n := p.c, z := r == 0, v := (t ^^^ r).getLsbD 6, c := carry }) := by
  intro r al ah low carry
  have fixed : BitVec.ofNat 8 low = arrFixLow t r := by
    have lowNat : low = (arrFixLow t r).toNat := (arrFixLow_toNat t r).symm
    rw [lowNat, BitVec.ofNat_toNat, BitVec.setWidth_eq]
  have result : BitVec.ofNat 8 (if carry then low + 0x60 else low) =
      if carry then arrFixLow t r + 0x60 else arrFixLow t r := by
    rw [apply_ite (BitVec.ofNat 8), BitVec.ofNat_add, fixed]
    rfl
  rw [arrDecimal, rorByte_eq, result]
  rfl

theorem arrBinary_eq (t : Byte) (p : Flags) :
    let r := (t >>> 1) ||| (if p.c then 0x80 else 0x00)
    arrBinary t p = (r, { setNZ r p with c := r.getLsbD 6, v := r.getLsbD 6 ^^ r.getLsbD 5 }) := by
  simp only [arrBinary, rorByte_eq]

/-- Settles O50: the guard passes on a part with ROR, and D chooses between the two routines. -/
theorem arrInBothModes : Obligations.ArrInBothModes := by
  intro s v present t r al ah low carry
  refine ⟨rfl, fun binary => ?binary, fun decimal => ?decimal⟩
  case binary =>
    have mode : (afterImmediate s).P.d = false := binary
    rw [arrImm_next present, arr_of_binary mode, arrBinary_eq]
    rfl
  case decimal =>
    have mode : (afterImmediate s).P.d = true := decimal
    rw [arrImm_next present, arr_of_decimal mode, arrDecimal_eq]
    rfl

/-! ## ANE and LXA -/

/-- Whatever is drawn, the constant is one of the four (R291). -/
theorem aneConst_mem (draw : BitVec 2) : Config.aneConst draw ∈ ([0x11, 0x10, 0x01, 0x00] : List Byte) := by
  revert draw
  decide

theorem lxaValue_of_lehti {s : State} (h : s.params.lxaVariant = .lehti) (v : Byte) :
    lxaValue v s = aneValue (Config.aneConst (Config.aneDraw s.tick)) s.A s.X v := by
  simp only [lxaValue, h]

theorem lxaValue_of_alternate {s : State} (h : s.params.lxaVariant = .alternate) (v : Byte) :
    lxaValue v s = s.A &&& v := by
  simp only [lxaValue, h]

/-- Settles O51: the constant is the one drawn after the two fetches. -/
theorem aneAndLxaWithADrawnConstant : Obligations.AneAndLxaWithADrawnConstant := by
  intro s v
  refine ⟨Config.aneConst (Config.aneDraw (s.tick + 2)), aneConst_mem _, rfl, rfl, runImm_eq ane v s,
    fun lehti => ?lehti, fun alternate => ?alternate⟩
  case lehti =>
    have account : (afterImmediate s).params.lxaVariant = .lehti := lehti
    exact runImm_next (by rw [lxa, lxaValue_of_lehti account]; rfl)
  case alternate =>
    have account : (afterImmediate s).params.lxaVariant = .alternate := alternate
    exact runImm_next (by rw [lxa, lxaValue_of_alternate account]; rfl)

/-! ## The stores -/

/-- SHS in closed form: the page is crossed when the low bytes carry (R298, R138). -/
theorem shsAby_next (w : Word) (s : State) :
    let v := s.A &&& s.X &&& (hi8 w + 1)
    let low := lo8 w + s.Y
    let at' := if 255 < (lo8 w).toNat + s.Y.toNat then wordOf v low else wordOf (hi8 w) low
    exec (.shsAby w) s = .next
      { memWrite at' v (afterReads 3 [s.pc, s.pc + 1, s.pc + 2, wordOf (hi8 w) low] s) with S := s.A &&& s.X } := by
  have closed : exec (.shsAby w) s = .next
      { writeHighAnd (.aby w) (s.A &&& s.X) s with S := s.A &&& s.X } := rfl
  simp only [closed, writeHighAnd_eq, storedHigh, highStoreAddress, targetOf, indexedBy, decide_eq_true_eq, lo8_wordOf]
  rfl

/-- Settles O52: SAX is a store of the Write class; the others are the store of the SHA family, SHS with S besides. -/
theorem undocumentedStores : Obligations.UndocumentedStores := by
  refine fun s b w => ⟨?sax, ?sha, rfl, shsAby_next w s⟩
  case sax =>
    exact modeForms_next (run := runStore (fun t => t.A &&& t.X)) (runStore_eq _ · s) rfl rfl
  case sha =>
    simp only [List.forall_mem_cons]
    exact ⟨⟨rfl, runStoreHigh_eq (fun t => t.A &&& t.X) (.izy b) s⟩,
      ⟨rfl, runStoreHigh_eq (fun t => t.A &&& t.X) (.aby w) s⟩, ⟨rfl, runStoreHigh_eq (·.X) (.aby w) s⟩,
      ⟨rfl, runStoreHigh_eq (·.Y) (.abx w) s⟩, List.forall_mem_nil _⟩

/-! ## The jams -/

/-- $82, $C2 and $E2 by the draw at their second cycle (R301). -/
theorem rareJamNop_eq (v : Byte) (s : State) :
    rareJamNop v s = if s.params.rareJam && Config.rareJamDraw (s.tick + 1) then .next (jam (afterImplied s))
      else .next (afterReads 2 [s.pc, s.pc + 1] s) := by
  have drawn : rareJam (skip s) = (s.params.rareJam && Config.rareJamDraw (s.tick + 1)) := rfl
  have jams : dummyRead (skip s).pc (skip s) = afterImplied s := by
    rw [skip_eq, dummyRead_afterReads]
    rfl
  rw [rareJamNop, drawn, jams, skip_skip]
  split <;> rfl

/-- Settles O53: a JAM is an implied instruction that jams; the three rare ones have the same end when they jam. -/
theorem jamsAndRareJams : Obligations.JamsAndRareJams := by
  refine ⟨fun s => ?jams, fun s v => ?rare⟩
  case jams =>
    have jams := runImplied_eq jam s
    simp only [List.forall_mem_cons]
    exact ⟨⟨rfl, jams⟩, ⟨rfl, jams⟩, ⟨rfl, jams⟩, ⟨rfl, jams⟩, ⟨rfl, jams⟩, ⟨rfl, jams⟩, ⟨rfl, jams⟩, ⟨rfl, jams⟩,
      ⟨rfl, jams⟩, ⟨rfl, jams⟩, ⟨rfl, jams⟩, ⟨rfl, jams⟩, List.forall_mem_nil _⟩
  case rare =>
    have rare := rareJamNop_eq v s
    simp only [List.forall_mem_cons]
    exact ⟨⟨rfl, rare⟩, ⟨rfl, rare⟩, ⟨rfl, rare⟩, List.forall_mem_nil _⟩

end Sys2Proof.Machine
end

section
/-! What a step does at an instruction boundary, and that none faults (60_exceptions.md sections 1 and 3). -/

namespace Sys2Proof.Machine

/-! ## The boundary -/

/-- The environment's input at a boundary touches no flag but V, nor whether a routine was just entered (60_exceptions.md
R320, R329). -/
theorem boundary_i_vectored (s : State) : (boundary s).P.i = s.P.i ∧ (boundary s).vectored = s.vectored := by
  unfold boundary
  split <;> exact ⟨rfl, rfl⟩

/-! ## The order of what is due (60_exceptions.md R316, D8) -/

section Dispatch

variable {s : State}

theorem recognises_iff : recognises s = true ↔ s.defer = false ∧ s.vectored = false := by
  simp [recognises]

theorem takesNmi_iff : takesNmi s = true ↔ recognises s = true ∧ s.nmiPending = true := by
  simp [takesNmi]

theorem takesIrq_iff : takesIrq s = true ↔ recognises s = true ∧ s.irqLine = true ∧ s.P.i = false := by
  simp [takesIrq, and_assoc]

/-- P.I masks an IRQ (R312). -/
theorem takesIrq_of_masked (h : s.P.i = true) : takesIrq s = false := by
  simp [takesIrq, h]

theorem dispatch_nmi (hr : s.resetLine = false) (hj : s.jammed = false) (hn : takesNmi s = true) :
    dispatch s = .next (nmiSequence s) := by
  simp [dispatch, hr, hj, hn]

theorem dispatch_irq (hr : s.resetLine = false) (hj : s.jammed = false) (hn : takesNmi s = false)
    (hi : takesIrq s = true) : dispatch s = .next (irqSequence s) := by
  simp [dispatch, hr, hj, hn, hi]

/-- Whatever takes the place of the instruction has a next state. -/
theorem dispatch_completes_or_runs (s : State) : Completes (dispatch s) ∨ dispatch s = runInstruction s := by
  unfold dispatch
  split
  next => exact .inl ⟨_, rfl⟩
  next =>
    split
    next => exact .inl ⟨_, rfl⟩
    next =>
      split
      next => exact .inl ⟨_, rfl⟩
      next =>
        split
        next => exact .inl ⟨_, rfl⟩
        next => exact .inr rfl

end Dispatch

/-- Settles O6: the branches of `dispatch` in their order; the boundary keeps I and whether a routine was just entered. -/
theorem boundaryPriority : Obligations.BoundaryPriority := by
  intro s
  obtain ⟨sameI, sameVectored⟩ := boundary_i_vectored s
  refine ⟨dispatch_reset, dispatch_jammed, fun hr hj hd hv hn => ?nmi, fun hr hj hd hv hn hl hi => ?irq,
    fun hr hj hn hi => ?masked, fun hr hj hn hl => ?quiet⟩
  case nmi =>
    have recognised := recognises_iff.mpr ⟨hd, sameVectored.trans hv⟩
    exact dispatch_nmi hr hj (takesNmi_iff.mpr ⟨recognised, hn⟩)
  case irq =>
    have recognised := recognises_iff.mpr ⟨hd, sameVectored.trans hv⟩
    exact dispatch_irq hr hj (takesNmi_of_none_pending hn) (takesIrq_iff.mpr ⟨recognised, hl, sameI.trans hi⟩)
  case masked =>
    exact dispatch_instruction hr hj (takesNmi_of_none_pending hn) (takesIrq_of_masked (sameI.trans hi))
  case quiet =>
    exact dispatch_instruction hr hj (takesNmi_of_none_pending hn) (takesIrq_of_line_high hl)

/-! ## The outcome of a step -/

/-- The outcome is a next state, or the part has no ROR and the instruction asks for it (30_encoding.md R113, log 27). -/
def CompletesButForRor (p : Params) (r : Result) : Prop := Completes r ∨ (p.hasRor = false ∧ r = .refused .rorAbsent)

theorem exec_completesButForRor (i : Instr) (s : State) : CompletesButForRor s.params (exec i s) := by
  cases uses : i.usesRor with
  | false => exact .inl (exec_completes_of_not_usesRor uses s)
  | true =>
    obtain ⟨meaning, guarded, completes⟩ := exec_of_usesRor uses
    rw [guarded]
    cases present : s.params.hasRor with
    | true => exact .inl (onRorPart_of_hasRor present meaning ▸ completes s)
    | false => exact .inr ⟨present, onRorPart_of_not_hasRor present meaning⟩

/-- The three bytes at pc always decode: the matrix has an entry for every opcode and three bytes suffice for each
(R102, R106). -/
theorem exists_decode_fetchBytes (s : State) : ∃ i rest, decode (fetchBytes s) = .ok (i, rest) := by
  obtain ⟨form, entry⟩ := exists_formOf (peek s.pc s)
  obtain ⟨i, decoded⟩ := decode_of_formOf entry (peekAfter [s.pc] (s.pc + 1) s)
    (peekAfter [s.pc, s.pc + 1] (s.pc + 2) s) []
  exact ⟨i, _, decoded⟩

theorem runInstruction_completesButForRor (s : State) : CompletesButForRor s.params (runInstruction s) := by
  obtain ⟨i, rest, decoded⟩ := exists_decode_fetchBytes s
  rw [runInstruction_of_decode decoded]
  exact exec_completesButForRor i (startInstr s)

theorem step_completesButForRor (s : State) : CompletesButForRor s.params (step s) := by
  obtain ⟨sameParams, -⟩ := boundary_bus s
  rcases dispatch_completes_or_runs (boundary s) with completes | runs
  · exact .inl completes
  · have step_runs : step s = runInstruction (boundary s) := runs
    rw [step_runs, ← sameParams]
    exact runInstruction_completesButForRor (boundary s)

/-- Settles O7: every step completes or is the one refusal. -/
theorem stepNeverFaults : Obligations.StepNeverFaults := by
  intro s
  rcases step_completesButForRor s with ⟨t, next⟩ | ⟨absent, refused⟩
  · rw [next]
    exact ⟨fun _ => ⟨t, rfl⟩, nofun, nofun⟩
  · rw [refused]
    refine ⟨fun present => ?_, nofun, fun _ h => ⟨(Host.Outcome.refused.inj h).symm, absent⟩⟩
    cases absent.symm.trans present

end Sys2Proof.Machine
end

section
/-! Entering an interrupt routine and returning from it: the sequences of IRQ and NMI, the frame on the stack, and that the
return undoes the entry (60_exceptions.md sections 4 and 6). -/

namespace Sys2Proof.Machine

/-! ## The interrupt sequences -/

/-- Whether a routine has just been entered plays no part in taking an exception. -/
theorem takeException_with_vectored (b setI : Bool) (vector : Word) (s : State) (k : Bool) :
    takeException b setI vector { s with vectored := k } = { takeException b setI vector s with vectored := k } := by
  rw [takeException_eq, takeException_eq]
  simp only [memWrite_with_vectored]
  rfl

/-- The two reads at pc before the entry, which leave pc where it is (R320, D21). -/
theorem dummyRead_dummyRead (a b : Word) (s : State) : dummyRead b (dummyRead a s) = afterReads 0 [a, b] s := by
  rw [dummyRead_eq a, dummyRead_afterReads]
  rfl

/-- The entry of an interrupt in closed form: pc and P with bit 4 clear and bit 5 set are pushed (R320, R321). -/
theorem takeException_interrupt_eq (setI : Bool) (vector : Word) (s : State) :
    let p1 : Byte := BitVec.ofNat 8 (128 * s.P.n.toNat + 64 * s.P.v.toNat + 32 +
      8 * s.P.d.toNat + 4 * s.P.i.toNat + 2 * s.P.z.toNat + s.P.c.toNat)
    let t := memWrite (wordOf 0x01 (s.S - 2)) p1 (memWrite (wordOf 0x01 (s.S - 1)) (lo8 s.pc)
      (memWrite (wordOf 0x01 s.S) (hi8 s.pc) (afterReads 0 [s.pc, s.pc] s)))
    takeException false setI vector { afterReads 0 [s.pc, s.pc] s with vectored := true } =
      { afterReads 0 [vector, vector + 1] t with
        S := s.S - 3, P := { s.P with i := s.P.i || setI }, vectored := true,
        pc := wordOf (peekAfter [vector] (vector + 1) t) (peek vector t) } := by
  have stays : (afterReads 0 [s.pc, s.pc] s).pc = s.pc := BitVec.add_zero s.pc
  rw [takeException_with_vectored, takeException_eq, stays, afterReads_P, statusByte_false]
  rfl

/-- Settles O41: two reads at pc and the entry with B clear, through FFFE or FFFA. -/
theorem interruptSequences : Obligations.InterruptSequences := by
  refine fun s => ⟨?irq, ?nmi⟩
  case irq =>
    rw [irqSequence, dummyRead_dummyRead, takeException_interrupt_eq, Bool.or_true]
    rfl
  case nmi =>
    have entered := takeException_with_nmiPending false s.params.nmiSetsI Config.nmiVector
      { afterReads 0 [s.pc, s.pc] s with vectored := true } false
    rw [takeException_interrupt_eq] at entered
    rw [nmiSequence, dummyRead_dummyRead]
    exact entered

/-! ## The stack in plain RAM -/

/-- The registers of the port lie in page 0, the stack in page 1 (R22, R80). -/
theorem isPortRegister_stack (p : Params) (x : Byte) : isPortRegister p (wordOf 0x01 x) = false := by
  have page_one (lo : Byte) : wordOf 0x01 x ≠ wordOf 0x00 lo := fun e =>
    have page : (0x01 : Byte) = 0x00 := (wordOf_inj.mp e).1
    absurd page (by decide)
  rw [isPortRegister_eq_false_iff]
  rintro ⟨-, e | e⟩
  · exact page_one 0x00 e
  · exact page_one 0x01 e

/-- A byte of the stack page after a write in that page (R22, R60). -/
theorem ram_read_stack_memWrite {s : State} (hf : s.params.platform = .flatRam) (v x y : Byte) :
    (memWrite (wordOf 0x01 x) v s).ram.read (wordOf 0x01 y).toNat =
      if y = x then v else s.ram.read (wordOf 0x01 y).toNat := by
  split
  next same =>
    rw [same, memWrite_flat _ v s hf (isPortRegister_stack _ x), logBus_ram, writeRam_ram, Memory.read_write_self]
  next differ =>
    have elsewhere : wordOf 0x01 y ≠ wordOf 0x01 x := fun e => differ (wordOf_inj.mp e).2
    exact memWrite_ram_read_of_ne _ v s fun e => elsewhere (BitVec.eq_of_toNat_eq e)

/-- What an entry leaves in RAM is what its three pushes leave (R320). -/
theorem takeException_ram (b setI : Bool) (vector : Word) (s : State) : (takeException b setI vector s).ram =
    (memWrite (wordOf 0x01 (s.S - 2)) (statusByte b s.P) (memWrite (wordOf 0x01 (s.S - 1)) (lo8 s.pc)
      (memWrite (wordOf 0x01 s.S) (hi8 s.pc) s))).ram := by
  rw [takeException_eq]
  rfl

/-- The frame an entry leaves, at the S of the interrupted code and at the two bytes below it (R320). -/
theorem takeException_frame_flat (b setI : Bool) (vector : Word) {s : State} (hf : s.params.platform = .flatRam) :
    (takeException b setI vector s).ram.read (wordOf 0x01 (s.S - 2)).toNat = statusByte b s.P ∧
    (takeException b setI vector s).ram.read (wordOf 0x01 (s.S - 1)).toNat = lo8 s.pc ∧
    (takeException b setI vector s).ram.read (wordOf 0x01 s.S).toNat = hi8 s.pc := by
  have top_ne_second : s.S ≠ s.S - 1 := by bv_omega
  have top_ne_third : s.S ≠ s.S - 2 := by bv_omega
  have second_ne_third : s.S - 1 ≠ s.S - 2 := by bv_omega
  have one_pushed : (memWrite (wordOf 0x01 s.S) (hi8 s.pc) s).params.platform = .flatRam := by rwa [memWrite_params]
  have two_pushed : (memWrite (wordOf 0x01 (s.S - 1)) (lo8 s.pc)
      (memWrite (wordOf 0x01 s.S) (hi8 s.pc) s)).params.platform = .flatRam := by rwa [memWrite_params]
  rw [takeException_ram]
  refine ⟨?status, ?low, ?high⟩
  case status => rw [ram_read_stack_memWrite two_pushed, if_pos rfl]
  case low =>
    rw [ram_read_stack_memWrite two_pushed, if_neg second_ne_third, ram_read_stack_memWrite one_pushed, if_pos rfl]
  case high =>
    rw [ram_read_stack_memWrite two_pushed, if_neg top_ne_third, ram_read_stack_memWrite one_pushed,
      if_neg top_ne_second, ram_read_stack_memWrite hf, if_pos rfl]

/-- Settles O42: the frame, addressed from the new S. -/
theorem handlerFindsTheFrame : Obligations.HandlerFindsTheFrame := by
  intro s b setI vector hf t
  obtain ⟨-, -, -, newS, -⟩ := takeException_registers b setI vector s
  have lowered : t.S = s.S - 3 := newS
  have up_one : s.S - 3 + 1 = s.S - 2 := by bv_omega
  have up_two : s.S - 3 + 2 = s.S - 1 := by bv_omega
  have up_three : s.S - 3 + 3 = s.S := by bv_omega
  rw [lowered, up_one, up_two, up_three]
  exact ⟨rfl, takeException_frame_flat b setI vector hf⟩

/-! ## The return -/

/-- The six flags come back from the byte pushed, whatever its bits 4 and 5 (R24, R326). -/
theorem flagsOfByte_statusByte (b : Bool) (p : Flags) : flagsOfByte (statusByte b p) = p := by
  have every : ∀ b n v d i z c : Bool, flagsOfByte (statusByte b ⟨n, v, d, i, z, c⟩) = ⟨n, v, d, i, z, c⟩ := by decide
  exact every b p.n p.v p.d p.i p.z p.c

/-- A return in closed form: a dummy read of the stack and three pulls (R171, R326). -/
theorem returnFromException_eq (s : State) : returnFromException s =
    { afterReads 0 [wordOf 0x01 s.S, wordOf 0x01 (s.S + 1), wordOf 0x01 (s.S + 2), wordOf 0x01 (s.S + 3)] s with
      S := s.S + 3, P := flagsOfByte (peekAfter [wordOf 0x01 s.S] (wordOf 0x01 (s.S + 1)) s),
      pc := wordOf
        (peekAfter [wordOf 0x01 s.S, wordOf 0x01 (s.S + 1), wordOf 0x01 (s.S + 2)] (wordOf 0x01 (s.S + 3)) s)
        (peekAfter [wordOf 0x01 s.S, wordOf 0x01 (s.S + 1)] (wordOf 0x01 (s.S + 2)) s) } := by
  have start : s = { afterReads 0 [] s with S := s.S, P := s.P } := (afterReads_nil s).symm
  calc returnFromException s = returnFromException { afterReads 0 [] s with S := s.S, P := s.P } :=
        congrArg returnFromException start
    _ = _ := by
        simp only [returnFromException, stackAddr, dummyRead_afterReads_stack, pull_afterReads, List.cons_append,
          List.nil_append]
        rw [stack_up_three, stack_up_two]

/-- On plain RAM the return takes P and pc from the three bytes above S (R60, R326). -/
theorem returnFromException_flat {s : State} (hf : s.params.platform = .flatRam) :
    let r := returnFromException s
    r.pc = wordOf (s.ram.read (wordOf 0x01 (s.S + 3)).toNat) (s.ram.read (wordOf 0x01 (s.S + 2)).toNat) ∧
    r.S = s.S + 3 ∧ r.P = flagsOfByte (s.ram.read (wordOf 0x01 (s.S + 1)).toNat) ∧
    r.A = s.A ∧ r.X = s.X ∧ r.Y = s.Y := by
  have pulled (as : List Word) (x : Byte) : peekAfter as (wordOf 0x01 x) s = s.ram.read (wordOf 0x01 x).toNat :=
    peekAfter_flat as (wordOf 0x01 x) s hf (isPortRegister_stack _ x)
  rw [returnFromException_eq]
  exact ⟨congrArg₂ wordOf (pulled _ _) (pulled _ _), rfl, congrArg flagsOfByte (pulled _ _), rfl, rfl, rfl⟩

/-- Settles O43: the return pulls the frame that the entry left. -/
theorem returnUndoesEntry : Obligations.ReturnUndoesEntry := by
  intro s b setI vector hf
  obtain ⟨keptA, keptX, keptY, -, -, keptParams, -⟩ := takeException_registers b setI vector s
  obtain ⟨lowered, status, low, high⟩ := handlerFindsTheFrame s b setI vector hf
  obtain ⟨pc, raised, flags, keptA', keptX', keptY'⟩ :=
    returnFromException_flat (s := takeException b setI vector s) (keptParams ▸ hf)
  have restored : s.S - 3 + 3 = s.S := by bv_omega
  refine ⟨?_, ?_, ?_, keptA'.trans keptA, keptX'.trans keptX, keptY'.trans keptY⟩
  · rw [pc, low, high, wordOf_hi8_lo8]
  · rw [raised, lowered, restored]
  · rw [flags, status, flagsOfByte_statusByte]

end Sys2Proof.Machine
end

section
/-! The reset sequence: which state it begins its reads from, and what they obtain (70_reset_and_hazards.md section 1). -/

namespace Sys2Proof.Machine

/-! ## States that a read cannot tell apart -/

/-- Everything a read depends on is the same in the two states: the platform and its memory and lines, the port, the
devices' state and the count of cycles (R60, R80). -/
structure SameBus (s t : State) : Prop where
  params : t.params = s.params
  ddr : t.ddr = s.ddr
  prLatch : t.prLatch = s.prLatch
  portIn : t.portIn = s.portIn
  exrom : t.exrom = s.exrom
  game : t.game = s.game
  ram : t.ram = s.ram
  colorRam : t.colorRam = s.colorRam
  roms : t.roms = s.roms
  device : t.device = s.device
  tick : t.tick = s.tick

namespace SameBus

variable {s t : State}

theorem peek_eq (h : SameBus s t) (a : Word) : peek a t = peek a s :=
  peek_congr a h.params h.ddr h.prLatch h.portIn h.exrom h.game h.ram h.colorRam h.roms h.device h.tick

theorem readEffect_eq (h : SameBus s t) (a : Word) : readEffect a t = readEffect a s :=
  readEffect_congr a h.params h.ddr h.prLatch h.portIn h.exrom h.game h.device h.tick

/-- A read keeps two such states alike: the devices see the same read in both. -/
theorem after_dummyRead (h : SameBus s t) (a : Word) : SameBus (dummyRead a s) (dummyRead a t) :=
  { h with device := h.readEffect_eq a, tick := congrArg (· + 1) h.tick }

theorem after_readEach (h : SameBus s t) (as : List Word) : SameBus (readEach as s) (readEach as t) := by
  induction as generalizing s t with
  | nil => exact h
  | cons a as ih => exact ih (h.after_dummyRead a)

theorem peekAfter_eq (h : SameBus s t) (as : List Word) (a : Word) : peekAfter as a t = peekAfter as a s :=
  (h.after_readEach as).peek_eq a

theorem readsOf_eq (h : SameBus s t) (as : List Word) : readsOf as t = readsOf as s := by
  induction as generalizing s t with
  | nil => rfl
  | cons a as ih => rw [readsOf, readsOf, h.peek_eq a, ih (h.after_dummyRead a)]

end SameBus

/-! ## The reset sequence -/

/-- The unspecified addresses that a reset sequence reads before the vector (70_reset_and_hazards.md R350). -/
def readsBeforeVector (s : State) : List Word := (Config.resetReads s.tick).take 5

theorem readsBeforeVector_length_le (s : State) : (readsBeforeVector s).length ≤ 5 :=
  List.length_take_le 5 (Config.resetReads s.tick)

/-- The reset sequence in closed form, pc included: reads alone from where it begins, the vector's two the last (R350). -/
theorem resetSequence_afterReads (s : State) : resetSequence s =
    { afterReads 0 (readsBeforeVector s ++ [Config.resetVector, Config.resetVector + 1]) (resetStart s) with
      pc := wordOf
        (peekAfter (readsBeforeVector s ++ [Config.resetVector]) (Config.resetVector + 1) (resetStart s))
        (peekAfter (readsBeforeVector s) Config.resetVector (resetStart s)) } :=
  calc resetSequence s
    _ = jumpThrough Config.resetVector (Config.resetVector + 1) (readEach (readsBeforeVector s) (resetStart s)) := rfl
    _ = jumpThrough Config.resetVector (Config.resetVector + 1) (afterReads 0 (readsBeforeVector s) (resetStart s)) := by
        rw [readEach_eq]
    _ = _ := jumpThrough_afterReads ..

/-- What the sequence does to the jam, the pending NMI, S, I and the line plays no part in its reads: of all it sets, they
see the port and the devices alone (R354, R355). -/
theorem resetStart_sameBus (s : State) :
    SameBus { s with ddr := 0, prLatch := (resetStart s).prLatch, device := Config.deviceAfterReset s.device s.tick }
      (resetStart s) := by
  constructor <;> rfl

/-- Settles O44: the closed form, its reads seen from the state with the port and the devices reset. -/
theorem resetSequenceEffects : Obligations.ResetSequenceEffects := by
  intro s
  have alike := resetStart_sameBus s
  rw [resetSequence_afterReads]
  refine ⟨rfl, rfl, rfl, rfl, rfl, rfl, rfl, rfl, rfl, rfl, readsBeforeVector s, readsBeforeVector_length_le s, ?_, ?_⟩
  · exact congrArg (s.accesses ++ ·) (alike.readsOf_eq _)
  · exact congrArg₂ wordOf (alike.peekAfter_eq _ _) (alike.peekAfter_eq _ _)

end Sys2Proof.Machine
end
